-- ==== Sys2Proof/Word.lean ====
section
/-! DEFINITION. The value types of the block: bits, octets and 16-bit words (spec/00_scope.md R10 to R12). -/

namespace Sys2Proof

/-- A `Bit` is 0 or 1 (R12); 1 is `true`. A bit stream is a list in time order, earliest first. -/
abbrev Bit := Bool

/-- An octet, the spec's `u8`: bits 7..0 (R10). -/
abbrev Octet := BitVec 8

/-- The spec's `u16`: bits 15..0 (R10). -/
abbrev Word := BitVec 16

end Sys2Proof
end

