-- ==== Sys2Proof/Machine/Bits.lean ====
section
/-! DEFINITION. The named functions of spec/00_scope.md R13 on bits, octets and sequences. -/

namespace Sys2Proof.Machine

/-- `bits_msb(b)`: the bits of an octet, bit 7 first (R13). -/
def bitsMsb (b : Octet) : List Bit :=
  [b.getLsbD 7, b.getLsbD 6, b.getLsbD 5, b.getLsbD 4, b.getLsbD 3, b.getLsbD 2, b.getLsbD 1, b.getLsbD 0]

/-- `concat(map bits_msb xs)`: the serial order of an octet sequence (R104, R130). -/
def bitsOf (xs : List Octet) : List Bit :=
  xs.flatMap bitsMsb

/-- The number whose binary digits are `bs`, the first one the most significant: the sum of R13's `octet`. -/
def natOfBits (bs : List Bit) : Nat :=
  bs.foldl (fun n b => 2 * n + b.toNat) 0

/-- `octet(bs)`: the octet whose bit 7 is the first of eight bits (R13). -/
def octet (bs : List Bit) : Octet :=
  BitVec.ofNat 8 (natOfBits bs)

/-- `bitrev8(b)`: the octet whose bit `i` is bit `7-i` of `b` (R13). -/
def bitrev8 (b : Octet) : Octet :=
  octet (bitsMsb b).reverse

/-- `reflect16(v)`: the word whose bit `i` is bit `15-i` of `v` (R13). -/
def reflect16 (v : Word) : Word :=
  BitVec.ofNat 16 (natOfBits ((List.range 16).map v.getLsbD))

/-- `group8(bs)`: the octets of the whole groups of eight bits; a trailing partial group is dropped (R13). -/
def group8 : List Bit → List Octet
  | b7 :: b6 :: b5 :: b4 :: b3 :: b2 :: b1 :: b0 :: rest =>
      octet [b7, b6, b5, b4, b3, b2, b1, b0] :: group8 rest
  | _ => []

/-- The number of 0 bits that complete the last octet of `n` bits (R13, R108). -/
def padCount (n : Nat) : Nat :=
  (8 - n % 8) % 8

/-- `pack(bs)`: pad with 0 bits to whole octets, then group (R13). -/
def pack (bs : List Bit) : List Octet :=
  group8 (bs ++ List.replicate (padCount bs.length) false)

/-- `popcount(h)` of the 7-bit append history (R13, R142). -/
def popcount7 (h : BitVec 7) : Nat :=
  (List.range 7).countP (fun j => h.getLsbD j)

/-- `dropLast(n, xs)`: without its last `min(n, len(xs))` elements (R12). -/
def dropLastN {α : Type} (n : Nat) (xs : List α) : List α :=
  xs.take (xs.length - n)

/-- The high octet `v[15:8]` of a word (R10). -/
def hiOctet (v : Word) : Octet :=
  v.extractLsb' 8 8

/-- The low octet `v[7:0]` of a word (R10). -/
def loOctet (v : Word) : Octet :=
  v.extractLsb' 0 8

/-- The big-endian word of two octets, `(hi << 8) | lo` (R44). -/
def wordOfOctets (hi lo : Octet) : Word :=
  hi ++ lo

end Sys2Proof.Machine
end

