-- ==== Sys2Proof/Config.lean ====
section
/-! DEFINITION. The parameters the spec fixes (spec/00_scope.md R6 to R9). The one parameter it leaves open,
`MAX_INPUT_OCTETS` (R9, R65), is not a constant here: it is the field `maxInputOctets` of State, which every
statement ranges over (log entry 2). -/

namespace Sys2Proof.Config

/-- The generator polynomial, without the implicit `x^16` (R6). -/
def crcPoly : Nat := 0x1021

/-- The initial value of the CRC register (R6, R82). -/
def crcSeed : Word := 0xFFFF

/-- The final XOR of the checksum (R6, R84). -/
def crcFinalXor : Word := 0xFFFF

/-- The flag octet, 0 1 1 1 1 1 1 0 in transmission order (R7, R69). -/
def flag : Octet := 0x7E

/-- The framer stuffs a 0 after this many consecutive 1s, and the deframer drops a 0 that follows that many
(R7, R8). -/
def stuffAfter : Nat := 5

/-- A ones count that exceeds this fails the frame (R8). -/
def abortAbove : Nat := 6

/-- The deframer's shift register at the start of a command, `RX_SR_INIT` (R9, R131). -/
def rxSrInit : Octet := 0xFF

end Sys2Proof.Config
end

