-- ==== Sys2Proof/Machine/Flags.lean ====
section
/-! DEFINITION. The block's only flag register is `status` (spec/10_state.md R34): its result codes
(spec/30_encoding.md R66, spec/60_exceptions.md R170). -/

namespace Sys2Proof.Machine

/-- The result codes, in the order of R66. -/
inductive ResultCode where
  | ok
  /-- The Frame Codec's: never produced by this block (R66, R170). -/
  | malformedAddress
  | bitStuffViolation
  | frameNotFound
  | incompleteFrame
  | crcMismatch
deriving DecidableEq, Repr

/-- The number of a result code in `status` (R66). -/
def statusOf : ResultCode → Octet
  | .ok => 0x00
  | .malformedAddress => 0x01
  | .bitStuffViolation => 0x02
  | .frameNotFound => 0x03
  | .incompleteFrame => 0x04
  | .crcMismatch => 0x05

end Sys2Proof.Machine
end

