-- ==== Sys2Proof/Syntax.lean ====
section
/-! DEFINITION. The four commands of spec/30_encoding.md R60, their operand forms (R62, R75), the raw command as it
stands on the command interface (R61), and the moves the host makes between commands (R191, R194, R195). -/

namespace Sys2Proof

/-- An octet-sequence operand (R62, R75). `octets xs` is a sequence written out, whether as `[hex hex ...]` or as
the ASCII codes of a quoted text; `out` is the operand `OUT`: the value of register `out` when the command is
issued (R75, R196). -/
inductive Operand where
  | octets (xs : List Octet)
  | out
deriving DecidableEq, Repr

/-- The commands (R60), one constructor for each row of spec/opcode_table.json. -/
inductive Instr where
  /-- `CRC_TABLE_READ idx` (R86). -/
  | crcTableRead (idx : Octet)
  /-- `CRC_CALC In` (R87). -/
  | crcCalc (src : Operand)
  /-- `FRAME In` (R110). -/
  | frame (src : Operand)
  /-- `DEFRAME In` (R149). -/
  | deframe (src : Operand)
deriving DecidableEq, Repr

/-- A command before decoding: the opcode octet and, beside it, the operand (R61). The one-octet operand of
`CRC_TABLE_READ` travels as a sequence of one octet, as in the listings of R75 (`01 | 01`). -/
structure Command where
  opcode : Octet
  operand : Operand
deriving DecidableEq, Repr

/-- What the host does between commands: issue a command (R195) or reset the block (R190, R191). Reading the
result registers changes nothing (R52) and is no move. -/
inductive HostMove where
  | issue (c : Command)
  | reset
deriving DecidableEq, Repr

end Sys2Proof
end

