-- ==== Sys2Proof/Machine/State.lean ====
section
/-! DEFINITION. The state of the block (spec/10_state.md), the reset state (R38), and the reasons a step can stop. -/

namespace Sys2Proof.Machine

/-- The four deframer states (R25). Their numeric encoding is not observable (R25), so they are names here. -/
inductive RxState where
  | searching
  | inFrame
  | done
  | failed
deriving DecidableEq, Repr

/-- A fault: none exists. "The block has no fault in the model's sense" (spec/60_exceptions.md R187): every
command on an admitted operand completes. -/
inductive Fault where
deriving DecidableEq, Repr

/-- A step that has no meaning. -/
inductive Refusal where
  /-- Raised by `exec` for an instruction that has no meaning in the model; no arm raises it now. Safe: the run
  stops. -/
  | notModelled (mnemonic : String)
  /-- Raised by `step` for an assigned opcode whose operand is not of the form of R62: `CRC_TABLE_READ` with other
  than one octet. The spec gives such a command no meaning. Safe: the run stops (log entry 4). -/
  | operandForm (opcode : Octet)
deriving DecidableEq, Repr

/-- The state of the block: the registers of spec/10_state.md R22 to R33, then the model's own three fields.
`CRC_ROM` (R21) is constant and is `crcRom` (log entry 1). -/
structure State where
  /-- The CRC unit's running checksum, 16 bits (R22). -/
  crc : Word
  /-- The framer's run-length counter, 3 bits (R23). -/
  txOnes : BitVec 3
  /-- The framer's emitted bit stream, in emission order (R24). -/
  txStream : List Bit
  /-- The deframer state (R25). -/
  rxState : RxState
  /-- The deframer's 8-bit sliding shift register (R26). -/
  rxSr : BitVec 8
  /-- The deframer's run-length counter, 3 bits (R27). -/
  rxOnes : BitVec 3
  /-- The deframer's destuffed bit stream, in arrival order (R29). -/
  rxDbits : List Bit
  /-- The append history, 7 bits, the newest step in bit 0 (R30). -/
  rxHist : BitVec 7
  /-- The input cursor (R28). -/
  cur : Nat
  /-- The result code of the last completed command, 8 bits (R31). -/
  status : Octet
  /-- The 16-bit result (R32). -/
  value : Word
  /-- The result octet sequence (R33). -/
  out : List Octet
  /-- The refusal mark of R186: the model's, "not a block register". -/
  refusalMark : Bool
  /-- The moves the host has yet to make, the next one first (R194; log entry 5). The model's, no register. -/
  pending : List HostMove
  /-- The parameter `MAX_INPUT_OCTETS` (R9), `none` for unbounded. The model's, no register; no step writes it
  (log entry 2). -/
  maxInputOctets : Option Nat
deriving DecidableEq, Repr

/-- The state after reset: every register as R38 gives it, the refusal mark clear, no host move pending, and the
operand length unbounded, which is R9's default. -/
def State.reset : State where
  crc := Config.crcSeed
  txOnes := 0
  txStream := []
  rxState := .searching
  rxSr := Config.rxSrInit
  rxOnes := 0
  rxDbits := []
  rxHist := 0
  cur := 0
  status := 0x00
  value := 0x0000
  out := []
  refusalMark := false
  pending := []
  maxInputOctets := none

end Sys2Proof.Machine
end

