-- ==== Sys2Proof/Machine/Ops.lean ====
section
/-! DEFINITION. The operations of the command interface: completing a command (spec/30_encoding.md R67), raising an
error (spec/60_exceptions.md R171), refusing a command (R186), the input cursor (spec/10_state.md R28), reset
(spec/70_reset_and_hazards.md R190), and taking the host's next move. There is no return from an error: R177. -/

namespace Sys2Proof.Machine

/-- A command ends: it writes all three result registers (R31 to R33, R67). -/
def State.complete (code : ResultCode) (value : Word) (out : List Octet) (s : State) : State :=
  { s with status := statusOf code, value := value, out := out }

/-- `raise R(code)`: the command ends at once with `code` and no partial result; the unit registers keep what they
hold (R171). The block's one way to report an error, in place of a trap entry (R176). -/
def State.raise (code : ResultCode) (s : State) : State :=
  s.complete code 0x0000 []

/-- A refused command changes no register and sets the refusal mark (R186). -/
def State.refuse (s : State) : State :=
  { s with refusalMark := true }

/-- `cur <- 0` (R28). -/
def State.cursorStart (s : State) : State :=
  { s with cur := 0 }

/-- `cur <- cur + 1` (R28). -/
def State.cursorAdvance (s : State) : State :=
  { s with cur := s.cur + 1 }

/-- Reset sets every register of the block to its value of R38 and "has no other effect" (R190): the refusal mark,
the host's moves and the operand limit are no registers of the block and stay (log entry 6). -/
def State.resetBlock (s : State) : State :=
  { State.reset with
    refusalMark := s.refusalMark
    pending := s.pending
    maxInputOctets := s.maxInputOctets }

/-- The host's next move is taken from the front of its list (R194). -/
def State.takeMove (s : State) : State :=
  { s with pending := s.pending.tail }

/-- The host's moves are a program: a finite sequence of commands issued one after another (R194). -/
def State.loadProgram (program : List Command) (s : State) : State :=
  { s with pending := program.map HostMove.issue }

/-- A command is put in front of the host's moves, so that it is issued next. -/
def State.issueNext (c : Command) (s : State) : State :=
  { s with pending := HostMove.issue c :: s.pending }

end Sys2Proof.Machine
end

