-- ==== Sys2Proof/Machine/Operands.lean ====
section
/-! DEFINITION. The operand forms (spec/30_encoding.md R62, R75) and the limit on their length (R65), which is checked
when the command is issued and before any step of it (spec/60_exceptions.md R174). -/

namespace Sys2Proof.Machine

/-- The octet sequence `In` of an operand, a value fixed at issue (spec/20_memory.md R42): written out, or for `OUT`
register `out` as it stands (R75, spec/70_reset_and_hazards.md R196). -/
def operandValue (src : Operand) (s : State) : List Octet :=
  match src with
  | .octets xs => xs
  | .out => s.out

/-- The operand is no longer than `MAX_INPUT_OCTETS` (R62, R65); unbounded, it admits every operand. -/
def admits (src : Operand) (s : State) : Bool :=
  match s.maxInputOctets with
  | none => true
  | some m => decide ((operandValue src s).length ≤ m)

/-- The operand of a command is admitted: `CRC_TABLE_READ` has no octet-sequence operand and is never too long (R62,
R65). -/
def admitsInstr (i : Instr) (s : State) : Bool :=
  match i with
  | .crcTableRead _ => true
  | .crcCalc src => admits src s
  | .frame src => admits src s
  | .deframe src => admits src s

/-- Run a command on its octet-sequence operand, or refuse it when the operand is too long (R65, R174, R186). -/
def withOperand (run : List Octet → State → State) (src : Operand) (s : State) :
    Host.Outcome State Fault Refusal :=
  if admits src s then .next (run (operandValue src s) s) else .next s.refuse

end Sys2Proof.Machine
end

