-- ==== Sys2Proof/Machine/Crc.lean ====
section
/-! DEFINITION. The CRC unit (spec/40_crc.md): its steps R82 to R85 and the commands `CRC_TABLE_READ` (R86) and
`CRC_CALC` (R87). -/

namespace Sys2Proof.Machine

/-- The value `crc_step(b)` gives `crc` (R83). The masks of R83 are the widths here. -/
def crcNext (crc : Word) (b : Octet) : Word :=
  romRead (b ^^^ (crc >>> 8).setWidth 8) ^^^ (crc <<< 8)

/-- The checksum of R84: `(crc XOR 0xFFFF) & 0xFFFF`. -/
def crcResult (crc : Word) : Word :=
  crc ^^^ Config.crcFinalXor

/-- `CRC16(xs)` as a function of the octets alone (R85). -/
def crc16 (xs : List Octet) : Word :=
  crcResult (xs.foldl crcNext Config.crcSeed)

/-- `crc_init` (R82). -/
def State.crcInit (s : State) : State :=
  { s with crc := Config.crcSeed }

/-- `crc_step(b)` on the register (R83). -/
def State.crcStep (s : State) (b : Octet) : State :=
  { s with crc := crcNext s.crc b }

/-- `crc_final`: reads `crc` and does not change it (R84). -/
def State.crcFinal (s : State) : Word :=
  crcResult s.crc

/-- The CRC unit run over a sequence: `crc_init`, then one `crc_step` for each octet in index order (R85). -/
def State.crcRun (xs : List Octet) (s : State) : State :=
  xs.foldl State.crcStep s.crcInit

/-- One pass of the loop of `CRC_CALC`: `crc_step`, then `cur <- cur + 1` (R87). -/
def State.crcCalcStep (s : State) (b : Octet) : State :=
  (s.crcStep b).cursorAdvance

/-- The loop of `CRC_CALC` over its operand (R87, spec/20_memory.md R41). -/
def State.crcCalcLoop (xs : List Octet) (s : State) : State :=
  xs.foldl State.crcCalcStep s.crcInit.cursorStart

/-- `CRC_CALC` on an admitted operand (R87). -/
def crcCalcRun (xs : List Octet) (s : State) : State :=
  (s.crcCalcLoop xs).complete .ok (s.crcCalcLoop xs).crcFinal []

/-- `CRC_TABLE_READ idx` (R86): one table entry into `value`. The CRC register is neither read nor written. -/
def execCrcTableRead (idx : Octet) (s : State) : Host.Outcome State Fault Refusal :=
  .next (s.complete .ok (romRead idx) [])

/-- `CRC_CALC In` (R87): the checksum of the operand into `value`. -/
def execCrcCalc (src : Operand) (s : State) : Host.Outcome State Fault Refusal :=
  withOperand crcCalcRun src s

end Sys2Proof.Machine
end

