-- ==== Sys2Proof/Machine/Deframer.lean ====
section
/-! DEFINITION. The HDLC deframer (spec/42_deframer.md): the bit step R130 to R140, the end of the walk R141, the
`DONE` processing R142 to R147 and the command `DEFRAME` (R149). -/

namespace Sys2Proof.Machine

/-- Start of the command (R131). -/
def State.rxStart (s : State) : State :=
  { s with
    rxState := .searching
    rxSr := Config.rxSrInit
    rxOnes := 0
    rxDbits := []
    rxHist := 0
    cur := 0 }

/-- One input bit is consumed and shifted into the shift register (R130, R132). -/
def State.rxShift (t : Bit) (s : State) : State :=
  { s with rxSr := (s.rxSr <<< 1) ||| (BitVec.ofBool t).setWidth 8, cur := s.cur + 1 }

/-- Entry to `IN_FRAME` (R133). -/
def State.rxEnterFrame (s : State) : State :=
  { s with rxState := .inFrame, rxOnes := 0, rxDbits := [], rxHist := 0 }

/-- The `SEARCHING` step, after the shift (R133). -/
def State.rxSearchStep (s : State) : State :=
  if s.rxSr = Config.flag then s.rxEnterFrame else s

/-- The append history takes in whether this step appended a bit (R138). -/
def State.rxRecord (a : Bit) (s : State) : State :=
  { s with rxHist := (s.rxHist <<< 1) ||| (BitVec.ofBool a).setWidth 7 }

/-- The `IN_FRAME` step for a bit 1 that completes no flag: the seventh in a row fails the frame, any other is
appended (R135). -/
def State.rxOneStep (s : State) : State :=
  if s.rxOnes.toNat + 1 > Config.abortAbove then
    { s with rxOnes := s.rxOnes + 1, rxState := .failed }
  else
    { s with rxOnes := s.rxOnes + 1, rxDbits := s.rxDbits ++ [true] }.rxRecord true

/-- The `IN_FRAME` step for a bit 0 that completes no flag: after five 1s it is a stuffed bit and is dropped (R136),
otherwise it is data (R137). -/
def State.rxZeroStep (s : State) : State :=
  if s.rxOnes.toNat = Config.stuffAfter then
    { s with rxOnes := 0 }.rxRecord false
  else
    { s with rxOnes := 0, rxDbits := s.rxDbits ++ [false] }.rxRecord true

/-- The `IN_FRAME` step for the bit `t`, after the shift: the closing flag is tested first (R134). -/
def State.rxFrameStep (t : Bit) (s : State) : State :=
  if s.rxSr = Config.flag then { s with rxState := .done }
  else if t then s.rxOneStep
  else s.rxZeroStep

/-- One bit step (R132 to R138). `DONE` and `FAILED` are terminal: no bit is read there (R140). -/
def State.rxStep (s : State) (t : Bit) : State :=
  match s.rxState with
  | .searching => (s.rxShift t).rxSearchStep
  | .inFrame => (s.rxShift t).rxFrameStep t
  | .done => s
  | .failed => s

/-- The bit walk over an input bit stream, from the start of the command (R130, R131). -/
def State.rxWalk (bits : List Bit) (s : State) : State :=
  bits.foldl State.rxStep s.rxStart

/-- The closing flag's bits that were appended are taken back (R142). -/
def State.rxRetract (s : State) : State :=
  { s with rxDbits := dropLastN (popcount7 s.rxHist) s.rxDbits }

/-- The transmitted checksum: the last two octets, big-endian (R145). For fewer than two it is not used (R144). -/
def receivedFcs (octets : List Octet) : Word :=
  wordOfOctets (octets.getD (octets.length - 2) 0) (octets.getD (octets.length - 1) 0)

/-- The octets before the transmitted checksum (R145). -/
def receivedData (octets : List Octet) : List Octet :=
  octets.take (octets.length - 2)

/-- The checksum check and its outcome (R145 to R147), on the emitted octets. -/
def rxCheck (octets : List Octet) (s : State) : State :=
  let summed := s.crcRun (receivedData octets)
  if summed.crcFinal = receivedFcs octets then
    summed.complete .ok 0x0000 ((receivedData octets).map bitrev8)
  else
    summed.raise .crcMismatch

/-- The `DONE` processing (R142 to R147); fewer than two octets hold no checksum and fail (R144). -/
def rxFinish (s : State) : State :=
  let octets := group8 s.rxRetract.rxDbits
  if octets.length < 2 then s.rxRetract.raise .crcMismatch
  else rxCheck octets s.rxRetract

/-- The result of a finished bit walk (R141, R148, spec/60_exceptions.md R173). -/
def rxConclude (s : State) : State :=
  match s.rxState with
  | .searching => s.raise .frameNotFound
  | .inFrame => s.raise .incompleteFrame
  | .failed => s.raise .bitStuffViolation
  | .done => rxFinish s

/-- `DEFRAME` on an admitted operand (R149). -/
def deframeRun (xs : List Octet) (s : State) : State :=
  rxConclude (s.rxWalk (bitsOf xs))

/-- `DEFRAME In` (R149): find, destuff and check the first frame of a capture. -/
def execDeframe (src : Operand) (s : State) : Host.Outcome State Fault Refusal :=
  withOperand deframeRun src s

end Sys2Proof.Machine
end

