-- ==== Sys2Proof/Machine/Framer.lean ====
section
/-! DEFINITION. The HDLC framer (spec/41_framer.md): the stuffer R105 to R107 and the command `FRAME` (R110). -/

namespace Sys2Proof.Machine

/-- Stuffer start: the counter 0 and the stream empty (R105). -/
def State.txStart (s : State) : State :=
  { s with txOnes := 0, txStream := [] }

/-- Stuffer step for an input bit 1: emit it and count it, and after the fifth emit a stuffed 0 and count anew
(R106). -/
def State.txStepOne (s : State) : State :=
  if s.txOnes.toNat + 1 = Config.stuffAfter then
    { s with txStream := s.txStream ++ [true, false], txOnes := 0 }
  else
    { s with txStream := s.txStream ++ [true], txOnes := s.txOnes + 1 }

/-- Stuffer step for an input bit 0: emit it and count anew (R107). -/
def State.txStepZero (s : State) : State :=
  { s with txStream := s.txStream ++ [false], txOnes := 0 }

/-- Stuffer step for the input bit `t` (R110). -/
def State.txStep (s : State) (t : Bit) : State :=
  if t then s.txStepOne else s.txStepZero

/-- The stuffer over a bit stream, in order (R104, R110). -/
def State.txRun (bits : List Bit) (s : State) : State :=
  bits.foldl State.txStep s.txStart

/-- The bit reversal loop of `FRAME`: one octet reversed for each step of the cursor (R101, R110). -/
def State.reverseLoop (xs : List Octet) (s : State) : State :=
  xs.foldl (fun s _ => s.cursorAdvance) s.cursorStart

/-- The body: the reversed octets, then the FCS `g`, high octet first and not reversed (R103). -/
def frameBody (reversed : List Octet) (g : Word) : List Octet :=
  reversed ++ [hiOctet g, loOctet g]

/-- One flag octet at each end (R109). -/
def delimit (packed : List Octet) : List Octet :=
  [Config.flag] ++ packed ++ [Config.flag]

/-- `FRAME` with the checksum taken: the stuffer over the body of `reversed`, whose FCS stands in the CRC unit, then
the packing and the flags (R103 to R110). -/
def frameEmit (reversed : List Octet) (s : State) : State :=
  let sent := s.txRun (bitsOf (frameBody reversed s.crcFinal))
  sent.complete .ok 0x0000 (delimit (pack sent.txStream))

/-- `FRAME` on an admitted operand (R110). -/
def frameRun (xs : List Octet) (s : State) : State :=
  frameEmit (xs.map bitrev8) ((s.reverseLoop xs).crcRun (xs.map bitrev8))

/-- `FRAME In` (R110): one wire frame into `out`. It cannot fail. -/
def execFrame (src : Operand) (s : State) : Host.Outcome State Fault Refusal :=
  withOperand frameRun src s

end Sys2Proof.Machine
end

