-- ==== Sys2Proof/Machine/Dispatch.lean ====
section
/-! DEFINITION. One arm for each command (spec/30_encoding.md R60). -/

namespace Sys2Proof.Machine

def exec (i : Instr) (s : State) : Host.Outcome State Fault Refusal :=
  match i with
  | .crcTableRead idx => Sys2Proof.Machine.execCrcTableRead idx s
  | .crcCalc src => Sys2Proof.Machine.execCrcCalc src s
  | .frame src => Sys2Proof.Machine.execFrame src s
  | .deframe src => Sys2Proof.Machine.execDeframe src s

end Sys2Proof.Machine
end

