-- ==== Sys2Proof/WellFormed.lean ====
section
/-! DEFINITION. What makes a command well formed (spec/30_encoding.md R62, R65) and when it has a listing of its own
(R75). Operand values need no other check: every `idx` is legal and an octet sequence may hold any octets of any
admitted length (R62, R72). -/

namespace Sys2Proof

/-- A sequence of `n` octets is admitted under the limit `MAX_INPUT_OCTETS` (R62, R65); `none` is unbounded. -/
def lengthAdmitted (limit : Option Nat) (n : Nat) : Bool :=
  match limit with
  | none => true
  | some m => decide (n ≤ m)

/-- An operand written out is no longer than the limit (R62). The length of `OUT` is not known before the command
is issued, so it is checked then (`Machine.admits`) and not here. -/
def Operand.wellFormed (limit : Option Nat) : Operand → Bool
  | .octets xs => lengthAdmitted limit xs.length
  | .out => true

/-- A command is well formed: its operand is admitted (R62, R65). -/
def Instr.wellFormed (limit : Option Nat) : Instr → Bool
  | .crcTableRead _ => true
  | .crcCalc src => src.wellFormed limit
  | .frame src => src.wellFormed limit
  | .deframe src => src.wellFormed limit

/-- The operand is written out, so that the command has a listing (R75): `OUT` has none before it is issued. -/
def Operand.resolved : Operand → Bool
  | .octets _ => true
  | .out => false

/-- The command has a listing of its own (R75). -/
def Instr.resolved : Instr → Bool
  | .crcTableRead _ => true
  | .crcCalc src => src.resolved
  | .frame src => src.resolved
  | .deframe src => src.resolved

end Sys2Proof
end

