-- ==== Sys2Proof/Decode.lean ====
section
/-! DEFINITION. The decoder of spec/30_encoding.md R60 to R65, total on every opcode octet and operand and rejecting
by name, then the encoder from the same table, and both again on the octets of a listing (R75). -/

namespace Sys2Proof

/-- Why a command is rejected. -/
inductive DecodeError where
  /-- A reserved opcode: `0x00` or `0x05` to `0xFF` (R64). -/
  | reservedOpcode (opcode : Octet)
  /-- The opcode is assigned, but its operand is not of the form of R62 (log entry 4). -/
  | operandForm (opcode : Octet)
deriving DecidableEq, Repr

/-- What the decoder answers. -/
inductive Decoded where
  | instr (i : Instr)
  | rejected (e : DecodeError)
deriving DecidableEq, Repr

/-- The opcode octets of the table of R60. -/
def opCrcTableRead : Octet := 0x01
def opCrcCalc : Octet := 0x02
def opFrame : Octet := 0x03
def opDeframe : Octet := 0x04

/-- `CRC_TABLE_READ` takes one octet, `idx` (R62). -/
def decodeTableIndex : Operand → Decoded
  | .octets [idx] => .instr (.crcTableRead idx)
  | _ => .rejected (.operandForm opCrcTableRead)

/-- Decoding compares all of `op[7:0]` with the four values of R60; any other value is reserved (R63, R64). -/
def decode (c : Command) : Decoded :=
  if c.opcode = opCrcTableRead then decodeTableIndex c.operand
  else if c.opcode = opCrcCalc then .instr (.crcCalc c.operand)
  else if c.opcode = opFrame then .instr (.frame c.operand)
  else if c.opcode = opDeframe then .instr (.deframe c.operand)
  else .rejected (.reservedOpcode c.opcode)

/-- The raw command of an instruction (R60 to R62). -/
def encode : Instr → Command
  | .crcTableRead idx => ⟨opCrcTableRead, .octets [idx]⟩
  | .crcCalc src => ⟨opCrcCalc, src⟩
  | .frame src => ⟨opFrame, src⟩
  | .deframe src => ⟨opDeframe, src⟩

/-- A listing is the opcode octet, then the operand octets (R75); the empty listing holds no command. -/
def decodeListing : List Octet → Option Decoded
  | [] => none
  | op :: operand => some (decode ⟨op, .octets operand⟩)

/-- The octets of a command's operand where they are written out. -/
def operandOctets : Operand → Option (List Octet)
  | .octets xs => some xs
  | .out => none

/-- The listing of a command (R75): none for an operand `OUT`, whose octets are known only at issue. -/
def encodeListing (i : Instr) : Option (List Octet) :=
  (operandOctets (encode i).operand).map (fun xs => (encode i).opcode :: xs)

/-- The octets of the `n` low octet positions of `w`, the first octet in bits 7..0. -/
def octetsOfWord : Nat → Nat → List Octet
  | 0, _ => []
  | n + 1, w => BitVec.ofNat 8 w :: octetsOfWord n (w / 256)

/-- The listing of the table word `w` of `nbits` bits: its octets, first octet first, with an operand of one zero
octet where `nbits` holds the opcode octet only (log entry 10). -/
def tableListing (nbits w : Nat) : List Octet :=
  octetsOfWord (max 2 ((nbits + 7) / 8)) (w % 2 ^ nbits)

/-- The raw command of a table word. -/
def tableCommand (nbits w : Nat) : Command :=
  match tableListing nbits w with
  | [] => ⟨0, .octets []⟩
  | op :: operand => ⟨op, .octets operand⟩

/-- The instruction the decoder reads from a table word, none where it rejects it. -/
def decodeTableWord (nbits w : Nat) : Option Instr :=
  match decode (tableCommand nbits w) with
  | .instr i => some i
  | .rejected _ => none

end Sys2Proof
end

