-- ==== Sys2Proof/Machine/Interface.lean ====
section
/-! DEFINITION. The command interface before a command runs: the host's next move and its decoding
(spec/30_encoding.md R60 to R65, spec/70_reset_and_hazards.md R194), and what a rejected command does
(spec/60_exceptions.md R186). `step` only calls these. -/

namespace Sys2Proof.Machine

/-- What the interface finds to do. -/
inductive Request where
  /-- No move: the block is idle. -/
  | idle
  /-- The host resets the block. -/
  | reset
  /-- A command that decodes. -/
  | run (i : Instr)
  /-- A command the decoder rejects. -/
  | reject (e : DecodeError)
deriving DecidableEq, Repr

/-- A decoded command as a request. -/
def requestOf : Decoded → Request
  | .instr i => .run i
  | .rejected e => .reject e

/-- The host's next move, decoded (R63, R194). -/
def nextRequest (s : State) : Request :=
  match s.pending with
  | [] => .idle
  | .reset :: _ => .reset
  | .issue c :: _ => requestOf (decode c)

/-- A command the decoder rejects: a reserved opcode is refused as R64 and R186 say, and the run goes on; an operand
not of the form of R62 stops the run by name (log entry 4). -/
def execRejected (e : DecodeError) (s : State) : Host.Outcome State Fault Refusal :=
  match e with
  | .reservedOpcode _ => .next s.refuse
  | .operandForm op => .refused (.operandForm op)

/-- The block with no command to run is idle and holds its registers (spec/60_exceptions.md R185). -/
def execIdle (s : State) : Host.Outcome State Fault Refusal :=
  .next s

/-- The host's reset between commands (spec/70_reset_and_hazards.md R190, R191). -/
def execReset (s : State) : Host.Outcome State Fault Refusal :=
  .next s.resetBlock

end Sys2Proof.Machine
end

