-- ==== Sys2Proof/Machine/Step.lean ====
section
/-! DEFINITION. One step: the host's next move is taken and carried out whole (spec/20_memory.md R54). -/

namespace Sys2Proof.Machine

/-- One step (R54, R194): the next move of the host is taken from its list; a command that decodes runs, one that
does not is rejected, a reset resets the block, and with no move left the block is idle. -/
def step (s : State) : Host.Outcome State Fault Refusal :=
  match nextRequest s with
  | .idle => execIdle s
  | .reset => execReset s.takeMove
  | .run i => exec i s.takeMove
  | .reject e => execRejected e s.takeMove

/-- `s` with the table word `w` issued next. The block fetches no instructions (R57): a command comes from the host,
so the word is put in front of the host's moves (log entry 5). -/
def State.withFetchWord (s : State) (nbits w : Nat) : State :=
  s.issueNext (tableCommand nbits w)

end Sys2Proof.Machine
end

