-- ==== Sys2Proof/Machine/Assembler.lean ====
section
/-! DEFINITION. The assembler syntax of command sequences (spec/30_encoding.md R75), on the characters of a program
text, and a printer for it. Blanks, the case of hex letters and a ';' in a quoted text are the model's reading, since
the grammar names no blanks (DESIGN CHOICE, log entry 15). -/

namespace Sys2Proof.Machine

/-- The value of a hex digit; both letter cases are read. -/
def hexValue (c : Char) : Option Nat :=
  let n := c.toNat
  if 48 ≤ n ∧ n ≤ 57 then some (n - 48)
  else if 65 ≤ n ∧ n ≤ 70 then some (n - 55)
  else if 97 ≤ n ∧ n ≤ 102 then some (n - 87)
  else none

/-- `hex hex`: one octet, the high digit first. -/
def hexOctet (hi lo : Char) : Option Octet :=
  match hexValue hi, hexValue lo with
  | some h, some l => some (BitVec.ofNat 8 (16 * h + l))
  | _, _ => none

/-- A blank between words. -/
def isBlank (c : Char) : Bool :=
  c == ' ' || c == '\t' || c == '\r'

/-- What may stand after a command: blanks, then nothing or a comment. -/
def restIsComment (cs : List Char) : Bool :=
  match cs.dropWhile isBlank with
  | [] => true
  | c :: _ => c == ';'

/-- The octets of `[ hex hex ... ]` after the opening bracket, and what follows the closing one. -/
def parseOctets : List Char → Option (List Octet × List Char)
  | [] => none
  | c :: cs =>
    if c == ']' then some ([], cs)
    else if isBlank c then parseOctets cs
    else
      match cs with
      | [] => none
      | d :: rest =>
        match hexOctet c d, parseOctets rest with
        | some o, some (os, after) => some (o :: os, after)
        | _, _ => none

/-- The octets of a quoted text after the opening quote: each character's ASCII code (R75). -/
def parseAscii : List Char → Option (List Octet × List Char)
  | [] => none
  | c :: cs =>
    if c == '"' then some ([], cs)
    else if c.toNat < 128 then
      match parseAscii cs with
      | some (os, after) => some (BitVec.ofNat 8 c.toNat :: os, after)
      | none => none
    else none

/-- `octets`: a bracketed sequence, a quoted text or `OUT`. -/
def parseOperand : List Char → Option (Operand × List Char)
  | '[' :: cs => (parseOctets cs).map (fun p => (Operand.octets p.1, p.2))
  | '"' :: cs => (parseAscii cs).map (fun p => (Operand.octets p.1, p.2))
  | 'O' :: 'U' :: 'T' :: cs => some (Operand.out, cs)
  | _ => none

/-- `imm8`: `0x hex hex`. -/
def parseImm8 : List Char → Option (Octet × List Char)
  | '0' :: 'x' :: hi :: lo :: cs => (hexOctet hi lo).map (fun o => (o, cs))
  | _ => none

/-- A command with an octet-sequence operand, which must end the line. -/
def parseOctetCommand (make : Operand → Instr) (cs : List Char) : Option Instr :=
  match parseOperand (cs.dropWhile isBlank) with
  | some (src, after) => if restIsComment after then some (make src) else none
  | none => none

/-- `CRC_TABLE_READ` with its `imm8`, which must end the line. -/
def parseTableRead (cs : List Char) : Option Instr :=
  match parseImm8 (cs.dropWhile isBlank) with
  | some (idx, after) => if restIsComment after then some (.crcTableRead idx) else none
  | none => none

/-- The mnemonics, spelled as in R75. -/
def nameTableRead : List Char := ['C', 'R', 'C', '_', 'T', 'A', 'B', 'L', 'E', '_', 'R', 'E', 'A', 'D']
def nameCrcCalc : List Char := ['C', 'R', 'C', '_', 'C', 'A', 'L', 'C']
def nameFrame : List Char := ['F', 'R', 'A', 'M', 'E']
def nameDeframe : List Char := ['D', 'E', 'F', 'R', 'A', 'M', 'E']

/-- A character of a mnemonic. -/
def isNameChar (c : Char) : Bool :=
  c == '_' || (decide (65 ≤ c.toNat) && decide (c.toNat ≤ 90))

/-- `command`: the mnemonic and its operand (R75). DESIGN CHOICE (log entry 15): the grammar names no blanks, so where a
mnemonic ends is the model's reading. The mnemonic is the longest run of capitals and underscores; so a blank is needed
between it and `OUT` (`FRAMEOUT` is no command), and none before a bracket, a quote or `0x` (`FRAME[FF]` and
`CRC_TABLE_READ0x01` are commands). -/
def parseCommand (cs : List Char) : Option Instr :=
  let name := cs.takeWhile isNameChar
  let rest := cs.dropWhile isNameChar
  if name = nameTableRead then parseTableRead rest
  else if name = nameCrcCalc then parseOctetCommand .crcCalc rest
  else if name = nameFrame then parseOctetCommand .frame rest
  else if name = nameDeframe then parseOctetCommand .deframe rest
  else none

/-- One line, without its NEWLINE: the commands it holds, none or one; `none` where it is not a line of R75. -/
def parseLine (cs : List Char) : Option (List Instr) :=
  if restIsComment cs then some []
  else (parseCommand (cs.dropWhile isBlank)).map (fun i => [i])

/-- The lines of a text, each ended by a NEWLINE or by the end of the text. -/
def splitLines : List Char → List (List Char)
  | [] => [[]]
  | c :: cs =>
    if c == '\n' then [] :: splitLines cs
    else
      match splitLines cs with
      | [] => [[c]]
      | l :: ls => (c :: l) :: ls

/-- The commands of lines, in order; `none` where one is not a line of R75. -/
def parseLines : List (List Char) → Option (List Instr)
  | [] => some []
  | l :: ls =>
    match parseLine l, parseLines ls with
    | some i, some is => some (i ++ is)
    | _, _ => none

/-- `program`: the instructions of a text (R75). -/
def parseProgram (text : List Char) : Option (List Instr) :=
  parseLines (splitLines text)

/-- Assembling: the raw commands of a program text (R75). -/
def assemble (text : List Char) : Option (List Command) :=
  (parseProgram text).map (fun is => is.map encode)

/-- The hex digit of a value below 16, in capitals as the spec writes them. -/
def hexDigit (n : Nat) : Char :=
  if n < 10 then Char.ofNat (48 + n) else Char.ofNat (55 + n)

/-- The two hex digits of an octet. -/
def printOctet (o : Octet) : List Char :=
  [hexDigit (o.toNat / 16), hexDigit (o.toNat % 16)]

/-- An operand in the syntax of R75. -/
def printOperand : Operand → List Char
  | .octets xs => '[' :: xs.flatMap (fun o => ' ' :: printOctet o) ++ [' ', ']']
  | .out => ['O', 'U', 'T']

/-- A command in the syntax of R75. -/
def printCommand : Instr → List Char
  | .crcTableRead idx => nameTableRead ++ [' ', '0', 'x'] ++ printOctet idx
  | .crcCalc src => nameCrcCalc ++ [' '] ++ printOperand src
  | .frame src => nameFrame ++ [' '] ++ printOperand src
  | .deframe src => nameDeframe ++ [' '] ++ printOperand src

/-- A program in the syntax of R75: one command a line, each line ended by a NEWLINE. -/
def printProgram (is : List Instr) : List Char :=
  is.flatMap (fun i => printCommand i ++ ['\n'])

/-- A line of a program text in its parts: blanks, a command or none, blanks, a comment or none (R75). -/
structure SourceLine where
  indent : List Char
  command : Option Instr
  gap : List Char
  comment : Option (List Char)
deriving DecidableEq, Repr

/-- A command of a line, or nothing. -/
def printOptional : Option Instr → List Char
  | none => []
  | some i => printCommand i

/-- A comment of a line with its `;`, or nothing. -/
def printComment : Option (List Char) → List Char
  | none => []
  | some cs => ';' :: cs

/-- The text of a line with its NEWLINE. -/
def printSourceLine (l : SourceLine) : List Char :=
  l.indent ++ printOptional l.command ++ l.gap ++ printComment l.comment ++ ['\n']

/-- The parts are what they are called: blanks where blanks stand, and a comment within its line. -/
def properLine (l : SourceLine) : Bool :=
  l.indent.all isBlank && l.gap.all isBlank && !(printComment l.comment).contains '\n'

/-- A character that can stand in a quoted text: an ASCII character, no quote and no NEWLINE. -/
def isTextChar (c : Char) : Bool :=
  decide (c.toNat < 128) && !(c == '"') && !(c == '\n')

/-- The ASCII codes of a text (R75). -/
def asciiCodes (text : List Char) : List Octet :=
  text.map (fun c => BitVec.ofNat 8 c.toNat)

/-- A text between quotes. -/
def printQuoted (text : List Char) : List Char :=
  '"' :: text ++ ['"']

end Sys2Proof.Machine
end

