-- ==== Sys2Proof/Machine/Wire.lean ====
section
/-! DEFINITION. The wire format of spec/30_encoding.md section 3 as functions of bit streams and octets alone, with no
register: the words in which statements say what `FRAME` writes and what `DEFRAME` reads. The commands do not use
this file; that they agree with it is for statements to say. -/

namespace Sys2Proof.Machine

/-- Bit stuffing with `n` 1s seen so far: "insert a 0 bit after every 5 consecutive 1 bits" (R70). -/
def stuffFrom : Nat → List Bit → List Bit
  | _, [] => []
  | n, true :: bits => if n + 1 = 5 then true :: false :: stuffFrom 0 bits else true :: stuffFrom (n + 1) bits
  | _, false :: bits => false :: stuffFrom 0 bits

/-- The stuffed stream of a body, the counter starting at 0 (R68, R105). -/
def stuff (bits : List Bit) : List Bit :=
  stuffFrom 0 bits

/-- The walk of spec/41_framer.md R113 with `n` consecutive 1s seen so far: each 0 that arrives when the count is 5
is dropped. -/
def destuffFrom : Nat → List Bit → List Bit
  | _, [] => []
  | n, true :: bits => true :: destuffFrom (n + 1) bits
  | n, false :: bits => if n = 5 then destuffFrom 0 bits else false :: destuffFrom 0 bits

/-- The body of `n` encoded octets: the reversed octets, then the FCS, high octet first (R68). -/
def wireBody (xs : List Octet) : List Octet :=
  xs.map bitrev8 ++ [hiOctet (crc16 (xs.map bitrev8)), loOctet (crc16 (xs.map bitrev8))]

/-- The wire frame of the encoded octets `xs` (R68). -/
def wireOf (xs : List Octet) : List Octet :=
  [0x7E] ++ pack (stuff (bitsOf (wireBody xs))) ++ [0x7E]

/-- The number of 0s stuffed into the body of `xs` (R68). -/
def stuffedCount (xs : List Octet) : Nat :=
  (stuff (bitsOf (wireBody xs))).length - (bitsOf (wireBody xs)).length

/-- The eight bits of the flag in transmission order (R69). -/
def flagBits : List Bit :=
  [false, true, true, true, true, true, true, false]

/-- The stuffing count of R111: one 0 for each fifth 1 of a run, with `n` 1s of the current run seen so far. -/
def runFifths : Nat → List Bit → Nat
  | n, [] => n / 5
  | n, true :: bits => runFifths (n + 1) bits
  | n, false :: bits => n / 5 + runFifths 0 bits

/-- One shift step of R88. -/
def crcShiftStep (r : Nat) : Nat :=
  if r.testBit 15 then ((r <<< 1) ^^^ 0x1021) &&& 0xFFFF else (r <<< 1) &&& 0xFFFF

end Sys2Proof.Machine
end

