-- ==== Sys2Proof/Safety.lean ====
section
/-! DEFINITION. What the host observes of a run (spec/70_reset_and_hazards.md R194), what the result registers always
satisfy, and what one command leaves alone: the words in which claims are stated. -/

namespace Sys2Proof.Machine

/-- The three result registers as the host reads them (R31 to R33, R194). -/
structure Results where
  status : Octet
  value : Word
  out : List Octet
deriving DecidableEq, Repr

/-- What the host reads after a command (R194, R195). -/
def State.results (s : State) : Results :=
  ⟨s.status, s.value, s.out⟩

/-- `value` presented as two octets, the high octet first (R45). -/
def State.valueOctets (s : State) : List Octet :=
  [hiOctet s.value, loOctet s.value]

/-- The results of a command that ends with `code` (R67). -/
def resultsOf (code : ResultCode) (value : Word) (out : List Octet) : Results :=
  ⟨statusOf code, value, out⟩

/-- What an error leaves: its code and no partial result (R171). -/
def errorResults (code : ResultCode) : Results :=
  resultsOf code 0x0000 []

/-- A run satisfies a claim about results only while the refusal mark is clear (R186). -/
abbrev State.unmarked (s : State) : Prop :=
  s.refusalMark = false

/-- The states a run of at most `k` steps goes through, the first one left out; it ends early where a step stops. -/
def statesAfter : Nat → State → List State
  | 0, _ => []
  | k + 1, s =>
    match step s with
    | .next t => t :: statesAfter k t
    | .fault _ => []
    | .refused _ => []

/-- What a run of a program is observed by: the results each command leaves, and the refusal mark (R194). -/
def observe (program : List Command) (s : State) : List (Results × Bool) :=
  (statesAfter program.length (s.loadProgram program)).map (fun t => (t.results, t.refusalMark))

/-- A status that a command or a reset writes (R66, R170): never 0x01, never above 0x05. -/
abbrev legalStatus (c : Octet) : Prop :=
  c = 0x00 ∨ c = 0x02 ∨ c = 0x03 ∨ c = 0x04 ∨ c = 0x05

/-- The result registers agree with one row of R67: a status the block produces, no partial result beside an error
(R171), and never both a value and an output sequence. -/
abbrev State.ResultsConsistent (s : State) : Prop :=
  legalStatus s.status ∧ (s.status ≠ 0x00 → s.value = 0x0000 ∧ s.out = []) ∧ (s.out ≠ [] → s.value = 0x0000)

/-- The model's own fields are as before: the refusal mark, the host's moves and the operand limit. -/
abbrev SameModelFields (s t : State) : Prop :=
  t.refusalMark = s.refusalMark ∧ t.pending = s.pending ∧ t.maxInputOctets = s.maxInputOctets

/-- The framer's registers are as before (R23, R24). -/
abbrev SameTxUnit (s t : State) : Prop :=
  t.txOnes = s.txOnes ∧ t.txStream = s.txStream

/-- The deframer's registers are as before (R25 to R27, R29, R30). -/
abbrev SameRxUnit (s t : State) : Prop :=
  t.rxState = s.rxState ∧ t.rxSr = s.rxSr ∧ t.rxOnes = s.rxOnes ∧ t.rxDbits = s.rxDbits ∧ t.rxHist = s.rxHist

/-- The CRC register and the input cursor are as before (R22, R28). -/
abbrev SameCrcAndCursor (s t : State) : Prop :=
  t.crc = s.crc ∧ t.cur = s.cur

end Sys2Proof.Machine
end

