-- ==== Sys2Proof/Certificates/Slice0/Obligations.lean ====
section
/-! DEFINITION. The statements about the block, for the provers. Each docstring names the rule of spec/ it formalises.
No statement reads a working register after a command that used it: spec/93_implementation_defined.md M3. The limit that
`admits` compares with is a field of the state, and every statement ranges over it: the model's choice (log entry 2). -/

open Sys2Proof Sys2Proof.Machine

/-! ## Reset, the interface and the step -/

/-- R190 with the values of R38: the state after reset, `CRC_ROM` among it with the contents R80 constructs (a constant
of the model, log entry 1), and that a reset between commands sets every register of the block to these values. That a
reset is a move of the host's list is the model's choice (log entry 5), and that it leaves the refusal mark, the later
moves and the parameter is too (log entry 6, DESIGN CHOICE: the spec leaves open whether a reset clears the mark). -/
def Obligations.ResetSetsEveryRegister : Prop :=
  (State.reset.crc = 0xFFFF ∧ State.reset.txOnes = 0 ∧ State.reset.txStream = [] ∧
    State.reset.rxState = .searching ∧ State.reset.rxSr = 0xFF ∧ State.reset.rxOnes = 0 ∧
    State.reset.rxDbits = [] ∧ State.reset.rxHist = 0 ∧ State.reset.cur = 0 ∧
    State.reset.results = ⟨0x00, 0x0000, []⟩) ∧
  (∀ i : Octet, (romRead i).toNat = tableEntry i.toNat) ∧
  (∀ (s : State) (rest : List HostMove), s.pending = .reset :: rest →
    step s = .next { State.reset with
      refusalMark := s.refusalMark, pending := rest, maxInputOctets := s.maxInputOctets })

/-- The invariant of R67, R66 and R171 on the result registers holds in the state after reset. -/
def Obligations.ResetResultsAreConsistent : Prop :=
  State.reset.ResultsConsistent

/-- R66, R67, R171: whatever a step does, the result registers stay those of one row of R67: a status the block
produces (never 0x01, never above 0x05), value 0 and no octets beside an error, never a value and octets together. -/
def Obligations.StepKeepsResultsConsistent : Prop :=
  ∀ s t : State, s.ResultsConsistent → step s = .next t → t.ResultsConsistent

/-- The refusal mark "stays set for the rest of the run" (R186), and no step changes the parameter `MAX_INPUT_OCTETS` or
any move of the host but the one it takes. The model's choices in it: the mark survives a reset by the host as well (log
entry 6), the parameter is a field of the state (log entry 2), and so is the list of moves (log entry 5). -/
def Obligations.StepKeepsMarkAndParameter : Prop :=
  ∀ s t : State, step s = .next t →
    (s.refusalMark = true → t.refusalMark = true) ∧ t.maxInputOctets = s.maxInputOctets ∧
      t.pending = s.pending.tail

/-- A step runs the decoded command (R54, R63, R194): the host's next command, decoded, is carried out whole by
`exec`, and the step adds only that the move is taken; the same for a table word issued next. The list of moves (log
entry 5) and the operand of a table word (log entry 10) are the model's choice. -/
def Obligations.StepRunsTheDecodedCommand : Prop :=
  (∀ (s : State) (c : Command) (rest : List HostMove) (i : Instr),
    s.pending = .issue c :: rest → decode c = .instr i → step s = exec i { s with pending := rest }) ∧
  (∀ (s : State) (nbits w : Nat) (i : Instr),
    decodeTableWord nbits w = some i → step (s.withFetchWord nbits w) = exec i s)

/-- The block with no command is idle and holds its registers (R185, R192). That the idle block has a step of its
own is the model's choice (log entry 5). -/
def Obligations.IdleBlockHoldsItsRegisters : Prop :=
  ∀ s : State, s.pending = [] → step s = .next s

/-- A command with a reserved opcode, `0x00` or `0x05` to `0xFF`, with any operand, marks the refusal and changes no
register (R64). That this is a next state after which the run goes on is the model's choice (log entry 3, DESIGN
CHOICE), and so is the list of moves from which the command is taken (log entry 5). -/
def Obligations.ReservedOpcodesAreRefused : Prop :=
  ∀ (s : State) (op : Octet) (src : Operand) (rest : List HostMove),
    s.pending = .issue ⟨op, src⟩ :: rest → (op = 0x00 ∨ 0x05 ≤ op.toNat) →
      step s = .next { s with pending := rest, refusalMark := true }

/-- `CRC_TABLE_READ` takes exactly one octet written out (R62): opcode `0x01` with any other operand stops the run by
name. That it stops is the model's choice (log entry 4); the spec gives such a command no meaning. -/
def Obligations.TableReadOperandFormStops : Prop :=
  ∀ (s : State) (src : Operand) (rest : List HostMove), s.pending = .issue ⟨0x01, src⟩ :: rest →
    (¬ ∃ idx : Octet, src = .octets [idx]) → step s = .refused (.operandForm 0x01)

/-- An octet-sequence operand longer than `MAX_INPUT_OCTETS` refuses the command, exactly as a reserved opcode does; with
the parameter unbounded no operand is refused (R65). That the refusal is a next state with the mark set is the model's
choice (log entry 3, DESIGN CHOICE), and so is the limit as a field of the state (log entry 2, DESIGN CHOICE). -/
def Obligations.OversizeOperandsAreRefused : Prop :=
  (∀ (src : Operand) (s : State) (m : Nat), s.maxInputOctets = some m → m < (operandValue src s).length →
    exec (.crcCalc src) s = .next { s with refusalMark := true } ∧
    exec (.frame src) s = .next { s with refusalMark := true } ∧
    exec (.deframe src) s = .next { s with refusalMark := true }) ∧
  (∀ (i : Instr) (s : State), s.maxInputOctets = none → ∃ t, exec i s = .next t ∧ t.refusalMark = s.refusalMark)

/-- R187, derived: no command on an admitted operand hangs, is stuck or lacks a meaning: it answers a next state with a
status the block produces and no refusal mark of its own, whatever the limit that admits the operand. That a command on an
operand that is too long answers a next state as well is not R187's but the model's choice (log entry 3). -/
def Obligations.EveryCommandCompletes : Prop :=
  ∀ (i : Instr) (s : State), ∃ t, exec i s = .next t ∧
    (admitsInstr i s = true → t.refusalMark = s.refusalMark ∧ legalStatus t.status)

/-- R196: the operand `OUT` is the `out` left by the previous command, taken when the next one is issued. That `OUT` is
a form of the operand in the instruction is the model's choice (log entry 9). -/
def Obligations.OutOperandIsThePreviousOutput : Prop :=
  ∀ s : State,
    exec (.crcCalc .out) s = exec (.crcCalc (.octets s.out)) s ∧
    exec (.frame .out) s = exec (.frame (.octets s.out)) s ∧
    exec (.deframe .out) s = exec (.deframe (.octets s.out)) s

/-- R171: `raise R(code)` writes the code, value 0 and no octets, and the unit registers keep what they held. -/
def Obligations.RaisedErrorLeavesNoPartialResult : Prop :=
  ∀ (code : ResultCode) (s : State),
    s.raise code = { s with status := statusOf code, value := 0x0000, out := [] }

/-- R36, R39, R52: the results of a command are a function of its opcode and operand alone. Two states that admit the
operand give the same results, whatever else they hold. -/
def Obligations.ResultsDependOnTheOperandAlone : Prop :=
  ∀ (i : Instr) (s s' : State), i.resolved = true →
    i.wellFormed s.maxInputOctets = true → i.wellFormed s'.maxInputOctets = true →
      ∃ t t', exec i s = .next t ∧ exec i s' = .next t' ∧ t.results = t'.results

/-- R37, the columns of the registers a command does not write: `CRC_TABLE_READ` leaves every working register,
`CRC_CALC` both framer and deframer, `FRAME` the deframer, `DEFRAME` the framer; and no command changes the host's
moves or the parameter, or sets the refusal mark where its operand is written out and admitted. That moves, parameter
and mark are fields of the state is the model's choice (log entries 2, 3 and 5). -/
def Obligations.CommandsWriteOnlyTheirRegisters : Prop :=
  (∀ (idx : Octet) (s t : State), exec (.crcTableRead idx) s = .next t →
    SameCrcAndCursor s t ∧ SameTxUnit s t ∧ SameRxUnit s t ∧ SameModelFields s t) ∧
  (∀ (src : Operand) (s t : State), exec (.crcCalc src) s = .next t → SameTxUnit s t ∧ SameRxUnit s t) ∧
  (∀ (src : Operand) (s t : State), exec (.frame src) s = .next t → SameRxUnit s t) ∧
  (∀ (src : Operand) (s t : State), exec (.deframe src) s = .next t → SameTxUnit s t) ∧
  (∀ (i : Instr) (s t : State), exec i s = .next t →
    t.pending = s.pending ∧ t.maxInputOctets = s.maxInputOctets ∧
      (i.resolved = true → i.wellFormed s.maxInputOctets = true → t.refusalMark = s.refusalMark))

/-! ## Encoding -/

/-- R60, R61, R63 and the table: the words of the four commands, the reserved words around them, and listings of R75
written out. The zero octet that stands for the operand of a table word is the model's choice (log entry 10). -/
def Obligations.TableWordsDecode : Prop :=
  decodeTableWord 8 0x01 = some (.crcTableRead 0x00) ∧ decodeTableWord 8 0x02 = some (.crcCalc (.octets [0x00])) ∧
  decodeTableWord 8 0x03 = some (.frame (.octets [0x00])) ∧
  decodeTableWord 8 0x04 = some (.deframe (.octets [0x00])) ∧
  decodeTableWord 8 0x00 = none ∧ decodeTableWord 8 0x05 = none ∧ decodeTableWord 8 0xFF = none ∧
  decodeListing [0x01, 0xFF] = some (.instr (.crcTableRead 0xFF)) ∧
  decodeListing [0x02, 0x31, 0x32, 0x33] = some (.instr (.crcCalc (.octets [0x31, 0x32, 0x33])))

/-- R60, R61, R63: a raw command decodes to an instruction exactly when it is that instruction's encoding, and the
same for listings (R75): the decoder drops no bit and reads no second word for an instruction. -/
def Obligations.DecodingInvertsEncoding : Prop :=
  (∀ (c : Command) (i : Instr), decode c = .instr i ↔ c = encode i) ∧
  (∀ (octets : List Octet) (i : Instr), decodeListing octets = some (.instr i) ↔ encodeListing i = some octets)

/-- R75 with R60 to R63: every program, written in the assembler syntax, assembles to commands that decode to its
instructions again, one for one, with every operand at every value. The printed layout is the model's (log
entry 15). -/
def Obligations.AssembledProgramsDecodeBack : Prop :=
  ∀ program : List Instr, ∃ commands : List Command,
    assemble (printProgram program) = some commands ∧ commands.map decode = program.map Decoded.instr

/-- R75, the quoted operand: for every text of ASCII characters without a quote or a NEWLINE, each of the three commands
with the text in quotes assembles to the command on the ASCII codes of its characters. The blank before the quote, and
which characters a text may hold, are the model's reading (log entry 15). -/
def Obligations.QuotedOperandsAssembleToTheirCodes : Prop :=
  ∀ text : List Char, text.all isTextChar = true →
    (∀ after : List Char, parseOperand (printQuoted text ++ after) = some (.octets (asciiCodes text), after)) ∧
    assemble (nameCrcCalc ++ ' ' :: printQuoted text ++ ['\n']) = some [⟨0x02, .octets (asciiCodes text)⟩] ∧
    assemble (nameFrame ++ ' ' :: printQuoted text ++ ['\n']) = some [⟨0x03, .octets (asciiCodes text)⟩] ∧
    assemble (nameDeframe ++ ' ' :: printQuoted text ++ ['\n']) = some [⟨0x04, .octets (asciiCodes text)⟩]

/-- R75, `line := [ command ] [ ";" comment ] NEWLINE`: a program text of lines, each with a command or none and a
comment or none, assembles to the commands of its lines in order; blank lines and comments, whatever their characters,
give none. The blanks around a command are the model's reading (log entry 15). -/
def Obligations.CommentsAndBlankLinesGiveNoCommand : Prop :=
  ∀ lines : List SourceLine, lines.all properLine = true →
    assemble (lines.flatMap printSourceLine) = some ((lines.filterMap SourceLine.command).map encode)

/-! ## The CRC unit -/

/-- R86: `CRC_TABLE_READ idx` puts `ROM[idx]` into `value`, `[]` into `out` and OK into `status`, and touches nothing
else; its encoding; its corner cases and example. -/
def Obligations.CrcTableReadYieldsTheEntry : Prop :=
  (∀ (idx : Octet) (s : State),
    exec (.crcTableRead idx) s = .next { s with value := romRead idx, out := [], status := 0x00 }) ∧
  (∀ idx : Octet, encode (.crcTableRead idx) = ⟨0x01, .octets [idx]⟩) ∧
  romRead 0x00 = 0x0000 ∧ romRead 0xFF = 0x1EF0 ∧ romRead 0x01 = 0x1021

/-- R82 to R84 in the natural-number arithmetic of R11: what `crc_init`, `crc_step` and `crc_final` do to `crc`, and
that they change nothing else. -/
def Obligations.CrcUnitStepsFollowTheirRules : Prop :=
  ∀ (s : State) (b : Octet),
    s.crcInit = { s with crc := 0xFFFF } ∧
    s.crcStep b = { s with crc := (s.crcStep b).crc } ∧
    (s.crcStep b).crc.toNat =
      (romRead (BitVec.ofNat 8 ((b.toNat ^^^ (s.crc.toNat >>> 8)) &&& 0xFF))).toNat ^^^
        ((s.crc.toNat <<< 8) &&& 0xFFFF) ∧
    s.crcFinal.toNat = (s.crc.toNat ^^^ 0xFFFF) &&& 0xFFFF

/-- R85: the CRC unit run over a sequence, then `crc_final`, is the function `CRC16` of the sequence alone, whatever the
register held; the run changes `crc` and nothing else; `CRC16([]) = 0x0000`. -/
def Obligations.CrcUnitRunComputesTheChecksum : Prop :=
  (∀ (xs : List Octet) (s : State),
    (s.crcRun xs).crcFinal = crc16 xs ∧ s.crcRun xs = { s with crc := (s.crcRun xs).crc }) ∧
  crc16 [] = 0x0000

/-- R87: `CRC_CALC In` puts `CRC16(In)` into `value`, `[]` into `out` and OK into `status`, for every admitted operand
in every state; its encoding; its corner cases and example. The framer and the deframer keep their registers. -/
def Obligations.CrcCalcYieldsTheChecksum : Prop :=
  (∀ (src : Operand) (s : State), admits src s = true →
    ∃ t, exec (.crcCalc src) s = .next t ∧ t.results = ⟨0x00, crc16 (operandValue src s), []⟩ ∧
      SameTxUnit s t ∧ SameRxUnit s t ∧ SameModelFields s t) ∧
  (∀ src : Operand, encode (.crcCalc src) = ⟨0x02, src⟩) ∧
  crc16 [] = 0x0000 ∧ crc16 [0x00] = 0x1E0F ∧ crc16 [0xFF] = 0x00FF ∧
  crc16 [0x31, 0x32, 0x33, 0x34, 0x35, 0x36, 0x37, 0x38, 0x39] = 0xD64E

/-- R81, an inference the spec marks as derived: "The table is linear". -/
def Obligations.CrcTableIsLinear : Prop :=
  ∀ a b : Octet, romRead (a ^^^ b) = romRead a ^^^ romRead b

/-- R88, an inference the spec marks as derived: `crc_step(b)` is eight most-significant-bit-first shift steps. -/
def Obligations.CrcStepIsEightShiftSteps : Prop :=
  ∀ (crc : Word) (b : Octet), (crcNext crc b).toNat = crcShiftStep^[8] (crc.toNat ^^^ (b.toNat <<< 8))

/-- R89 and R90, derived: the check value is `0xD64E`, and the source's `0x906E` is the reflected checksum of the
reversed octets. -/
def Obligations.CheckValuesOfTheCrc : Prop :=
  crc16 [0x31, 0x32, 0x33, 0x34, 0x35, 0x36, 0x37, 0x38, 0x39] = 0xD64E ∧
  crc16 ([0x31, 0x32, 0x33, 0x34, 0x35, 0x36, 0x37, 0x38, 0x39].map bitrev8) = 0x7609 ∧
  reflect16 0x7609 = 0x906E

/-- R91, derived: a sequence followed by its checksum, high octet first, has the checksum `0xE2F0`. -/
def Obligations.ChecksumResidueIsConstant : Prop :=
  ∀ xs : List Octet, crc16 (xs ++ [hiOctet (crc16 xs), loOctet (crc16 xs)]) = 0xE2F0

/-! ## The framer -/

/-- R10, R13, R44 to R47: an octet's bits and back, both ways; bit reversal swaps bit `i` and bit `7-i` and undoes itself; a word
of two octets is big-endian; a reversed octet goes out bit 0 first. -/
def Obligations.BitOrdersAndReversal : Prop :=
  (∀ bs : List Bit, bs.length = 8 → bitsMsb (octet bs) = bs) ∧
  (∀ b : Octet, octet (bitsMsb b) = b ∧ bitrev8 (bitrev8 b) = b ∧ bitsMsb (bitrev8 b) = (bitsMsb b).reverse) ∧
  (∀ (b : Octet) (i : Nat), i < 8 → (bitrev8 b).getLsbD i = b.getLsbD (7 - i)) ∧
  (∀ (b : Octet) (k : Nat), k < 8 → (bitsMsb b)[k]? = some (b.getLsbD (7 - k))) ∧
  (∀ hi lo : Octet, (wordOfOctets hi lo).toNat = 256 * hi.toNat + lo.toNat) ∧
  (∀ v : Word, wordOfOctets (hiOctet v) (loOctet v) = v)

/-- R106 and R107: the stuffer's step for each bit, whole, with the start of R105; and R23's range: from at most 4 the
counter stays at most 4. -/
def Obligations.StufferStepsFollowTheirRules : Prop :=
  ∀ s : State,
    s.txStart = { s with txOnes := 0, txStream := [] } ∧
    (s.txOnes.toNat + 1 = 5 → s.txStep true = { s with txStream := s.txStream ++ [true] ++ [false], txOnes := 0 }) ∧
    (s.txOnes.toNat + 1 ≠ 5 → s.txStep true = { s with txStream := s.txStream ++ [true], txOnes := s.txOnes + 1 }) ∧
    s.txStep false = { s with txStream := s.txStream ++ [false], txOnes := 0 } ∧
    (s.txOnes.toNat ≤ 4 → ∀ t : Bit, (s.txStep t).txOnes.toNat ≤ 4)

/-- R101 to R104, R109 with R68: for every admitted operand in every state `FRAME` ends OK with value 0 and the wire
frame: the flag, the packed stuffed body, the flag, where the body is the reversed octets and their checksum, high
octet first, each octet most significant bit first. The deframer keeps its registers. -/
def Obligations.FrameWritesTheWireFrame : Prop :=
  ∀ (src : Operand) (s : State), admits src s = true →
    ∃ (t : State) (R B : List Octet) (G : Word) (S : List Bit),
      R = (operandValue src s).map bitrev8 ∧ R.length = (operandValue src s).length ∧
      G = crc16 R ∧
      B = R ++ [hiOctet G, loOctet G] ∧ B.length = (operandValue src s).length + 2 ∧
      S = B.flatMap bitsMsb ∧ S.length = 8 * ((operandValue src s).length + 2) ∧
      exec (.frame src) s = .next t ∧
      t.results = ⟨0x00, 0x0000, [0x7E] ++ pack (stuff S) ++ [0x7E]⟩ ∧
      SameRxUnit s t ∧ SameModelFields s t

/-- R110's corner case and example, in every state that admits them: the empty sequence and one octet `FF`. -/
def Obligations.FrameCornerCases : Prop :=
  (∀ s : State, ∃ t, exec (.frame (.octets [])) s = .next t ∧ t.results = ⟨0x00, 0x0000, [0x7E, 0x00, 0x00, 0x7E]⟩) ∧
  (∀ s : State, admits (.octets [0xFF]) s = true →
    ∃ t, exec (.frame (.octets [0xFF])) s = .next t ∧
      t.results = ⟨0x00, 0x0000, [0x7E, 0xFB, 0x80, 0x7D, 0xC0, 0x7E]⟩)

/-- R108: the packed stream, read bit by bit, is the stream and then 0 to 7 zero bits, the fewest that complete an
octet; it has `ceil(len / 8)` octets; and these bits stand between the flags of what `FRAME` writes. -/
def Obligations.PackingPadsWithZeros : Prop :=
  (∀ bits : List Bit,
    bitsOf (pack bits) = bits ++ List.replicate ((8 - bits.length % 8) % 8) false ∧
    (pack bits).length = (bits.length + 7) / 8) ∧
  (∀ (src : Operand) (s : State), admits src s = true →
    ∃ t, exec (.frame src) s = .next t ∧
      t.out = [0x7E] ++ pack (stuff (bitsOf (wireBody (operandValue src s)))) ++ [0x7E])

/-- R111, derived: the stuffed stream is longer than the body by one bit for each fifth 1 of a run. -/
def Obligations.StuffingAddsOneBitPerFiveOnes : Prop :=
  ∀ bits : List Bit, (stuff bits).length = bits.length + runFifths 0 bits

/-- R73, derived: the bounds on the length of what `FRAME` writes for `n` octets. -/
def Obligations.WireLengthIsBounded : Prop :=
  ∀ (src : Operand) (s : State), admits src s = true →
    ∃ t, exec (.frame src) s = .next t ∧
      (operandValue src s).length + 4 ≤ t.out.length ∧
      t.out.length ≤
        2 + (8 * ((operandValue src s).length + 2) + 8 * ((operandValue src s).length + 2) / 5 + 7) / 8

/-- R112, derived: between the flags of a framer output no six consecutive 1 bits appear. -/
def Obligations.NoSixOnesBetweenTheFlags : Prop :=
  ∀ (src : Operand) (s : State), admits src s = true →
    ∃ (t : State) (packed : List Octet), exec (.frame src) s = .next t ∧ t.out = [0x7E] ++ packed ++ [0x7E] ∧
      ¬ List.replicate 6 true <:+: bitsOf packed

/-- R113, derived: dropping each 0 that follows five 1s gives back exactly the bits that were stuffed. -/
def Obligations.DestuffingInvertsStuffing : Prop :=
  ∀ bits : List Bit, destuffFrom 0 (stuff bits) = bits

/-- R114, derived: the flag pattern stands in a framer output at exactly two places, its first and its last eight
bits. -/
def Obligations.FlagPatternOnlyAtTheEnds : Prop :=
  ∀ (src : Operand) (s : State), admits src s = true →
    ∃ t, exec (.frame src) s = .next t ∧
      ∀ k : Nat, ((bitsOf t.out).drop k).take 8 = flagBits ↔ (k = 0 ∨ k + 8 = (bitsOf t.out).length)

/-! ## The deframer -/

/-- R131: the start of `DEFRAME`. -/
def Obligations.DeframerStart : Prop :=
  ∀ s : State, s.rxStart =
    { s with rxState := .searching, rxSr := 0xFF, rxOnes := 0, rxDbits := [], rxHist := 0b0000000, cur := 0 }

/-- R133, after the shift of R132: the `SEARCHING` step enters `IN_FRAME` on a flag and resets the counter, the bit
stream and the history; otherwise nothing but the shift register, and the cursor, changes. -/
def Obligations.SearchingStepFindsTheFlag : Prop :=
  ∀ (s : State) (t : Bit), s.rxState = .searching →
    ((((s.rxSr <<< 1) ||| BitVec.setWidth 8 (BitVec.ofBool t)) = 0x7E →
      s.rxStep t =
        { s with rxSr := 0x7E, cur := s.cur + 1, rxState := .inFrame, rxOnes := 0, rxDbits := [], rxHist := 0 }) ∧
    (((s.rxSr <<< 1) ||| BitVec.setWidth 8 (BitVec.ofBool t)) ≠ 0x7E →
      s.rxStep t = { s with rxSr := (s.rxSr <<< 1) ||| BitVec.setWidth 8 (BitVec.ofBool t), cur := s.cur + 1 }))

/-- R134 to R138: the `IN_FRAME` step in its five cases. The closing flag comes first; a 1 that exceeds six fails the
frame, any other 1 is appended; a 0 after exactly five 1s is dropped, any other 0 is appended; the history takes in
whether a bit was appended. -/
def Obligations.InFrameStepFollowsItsRules : Prop :=
  ∀ (s : State) (t : Bit) (sr : Octet), s.rxState = .inFrame →
    sr = (s.rxSr <<< 1) ||| BitVec.setWidth 8 (BitVec.ofBool t) →
      (sr = 0x7E → s.rxStep t = { s with rxSr := sr, cur := s.cur + 1, rxState := .done }) ∧
      (sr ≠ 0x7E → t = true → s.rxOnes.toNat + 1 > 6 →
        s.rxStep t = { s with rxSr := sr, cur := s.cur + 1, rxOnes := s.rxOnes + 1, rxState := .failed }) ∧
      (sr ≠ 0x7E → t = true → s.rxOnes.toNat + 1 ≤ 6 →
        s.rxStep t = { s with
          rxSr := sr, cur := s.cur + 1, rxOnes := s.rxOnes + 1, rxDbits := s.rxDbits ++ [true],
          rxHist := (s.rxHist <<< 1) ||| 1 }) ∧
      (sr ≠ 0x7E → t = false → s.rxOnes.toNat = 5 →
        s.rxStep t = { s with rxSr := sr, cur := s.cur + 1, rxOnes := 0, rxHist := s.rxHist <<< 1 }) ∧
      (sr ≠ 0x7E → t = false → s.rxOnes.toNat ≠ 5 →
        s.rxStep t = { s with
          rxSr := sr, cur := s.cur + 1, rxDbits := s.rxDbits ++ [false], rxOnes := 0,
          rxHist := (s.rxHist <<< 1) ||| 1 })

/-- R132 with R26, derived: in a walk that has not ended, the next bit makes the shift register hold `0x7E` exactly
when it completes the eight bits of a flag; so no flag is seen before eight bits are in. -/
def Obligations.FlagIsSeenAtItsEighthBit : Prop :=
  ∀ (s : State) (bits : List Bit) (t : Bit),
    ((s.rxWalk bits).rxState = .searching ∨ (s.rxWalk bits).rxState = .inFrame) →
      (((s.rxWalk bits).rxShift t).rxSr = 0x7E ↔ flagBits <:+ bits ++ [t])

/-- R139 (b) to (e), derived: a 1 never completes a flag; in a walk, a 0 after six counted 1s always does, so R137
sees a counter of at most 4; the counter in `IN_FRAME` is at most 6; and `DONE` needs at least 15 bits, six of them
in `IN_FRAME` before it. -/
def Obligations.BitStepFacts : Prop :=
  (∀ s : State, (s.rxShift true).rxSr ≠ 0x7E) ∧
  (∀ (s : State) (bits : List Bit), (s.rxWalk bits).rxState = .inFrame →
    (s.rxWalk bits).rxOnes.toNat ≤ 6 ∧
    ((s.rxWalk bits).rxOnes.toNat = 6 → ((s.rxWalk bits).rxShift false).rxSr = 0x7E)) ∧
  (∀ (s : State) (bits : List Bit), (s.rxWalk bits).rxState = .done → 15 ≤ bits.length)

/-- R140: after `DONE` or `FAILED` no bit is read, so whatever follows in the capture, further frames among it, has no
effect on the result. -/
def Obligations.InputAfterTheEndIsIgnored : Prop :=
  (∀ (s : State) (bits more : List Bit),
    ((s.rxWalk bits).rxState = .done ∨ (s.rxWalk bits).rxState = .failed) →
      s.rxWalk (bits ++ more) = s.rxWalk bits) ∧
  (∀ (s : State) (xs more : List Octet),
    ((s.rxWalk (bitsOf xs)).rxState = .done ∨ (s.rxWalk (bitsOf xs)).rxState = .failed) →
    admits (.octets xs) s = true → admits (.octets (xs ++ more)) s = true →
      ∃ t u, exec (.deframe (.octets xs)) s = .next t ∧ exec (.deframe (.octets (xs ++ more))) s = .next u ∧
        u.results = t.results)

/-- R141 to R148 in the order of R173: for every admitted capture in every state `DEFRAME` ends with the result of the
state its bit walk ends in; in `DONE`, with `O` the octets left after the closing flag's bits are taken back, fewer
than two octets or a wrong checksum give `CRC_MISMATCH`, a right one OK and the reversed octets before the checksum.
The framer keeps its registers. -/
def Obligations.DeframeResultByTerminalEvent : Prop :=
  ∀ (src : Operand) (s w : State) (O : List Octet), admits src s = true →
    w = s.rxWalk ((operandValue src s).flatMap bitsMsb) →
    O = group8 (dropLastN (popcount7 w.rxHist) w.rxDbits) →
      ∃ t, exec (.deframe src) s = .next t ∧ SameTxUnit s t ∧ SameModelFields s t ∧
        (w.rxState = .failed → t.results = ⟨0x02, 0x0000, []⟩) ∧
        (w.rxState = .searching → t.results = ⟨0x03, 0x0000, []⟩) ∧
        (w.rxState = .inFrame → t.results = ⟨0x04, 0x0000, []⟩) ∧
        (w.rxState = .done → O.length < 2 → t.results = ⟨0x05, 0x0000, []⟩) ∧
        (w.rxState = .done → ∀ (data : List Octet) (hi lo : Octet), O = data ++ [hi, lo] →
          ((crc16 data).toNat ≠ 256 * hi.toNat + lo.toNat → t.results = ⟨0x05, 0x0000, []⟩) ∧
          ((crc16 data).toNat = 256 * hi.toNat + lo.toNat → t.results = ⟨0x00, 0x0000, data.map bitrev8⟩))

/-- R141 and R149, the corner cases in every state that admits them: the empty capture, one flag only, and a flag
pattern across two octets neither of which is `7E` (conflict C3). -/
def Obligations.DeframeCornerCases : Prop :=
  (∀ s : State, ∃ t, exec (.deframe (.octets [])) s = .next t ∧ t.results = ⟨0x03, 0x0000, []⟩) ∧
  (∀ s : State, admits (.octets [0x7E]) s = true →
    ∃ t, exec (.deframe (.octets [0x7E])) s = .next t ∧ t.results = ⟨0x04, 0x0000, []⟩) ∧
  (∀ s : State, admits (.octets [0x0F, 0xC0]) s = true →
    ∃ t, exec (.deframe (.octets [0x0F, 0xC0])) s = .next t ∧ t.results = ⟨0x04, 0x0000, []⟩)

/-- R135 with R148, R173: seven consecutive 1s while in a frame end the command with `BIT_STUFF_VIOLATION`, whatever
follows. -/
def Obligations.SevenOnesInAFrameFail : Prop :=
  ∀ (capture : List Octet) (s : State) (before after : List Bit), admits (.octets capture) s = true →
    bitsOf capture = before ++ List.replicate 7 true ++ after →
    (s.rxWalk before).rxState = .inFrame →
      ∃ t, exec (.deframe (.octets capture)) s = .next t ∧ t.results = ⟨0x02, 0x0000, []⟩

/-- R197 with R139 (e), derived: a capture that begins with two adjacent flags, or with two flags that share a 0, is
an empty frame: `CRC_MISMATCH`, whatever follows. -/
def Obligations.AdjacentFlagsMakeAnEmptyFrame : Prop :=
  (∀ (rest : List Octet) (s : State), admits (.octets (0x7E :: 0x7E :: rest)) s = true →
    ∃ t, exec (.deframe (.octets (0x7E :: 0x7E :: rest))) s = .next t ∧ t.results = ⟨0x05, 0x0000, []⟩) ∧
  (∀ (rest : List Octet) (s : State), admits (.octets (0x7E :: 0xFC :: rest)) s = true →
    ∃ t, exec (.deframe (.octets (0x7E :: 0xFC :: rest))) s = .next t ∧ t.results = ⟨0x05, 0x0000, []⟩)

/-- R152 (e), derived and wider: a capture that begins and ends with a flag octet, whatever stands between, never
gives `FRAME_NOT_FOUND` or `INCOMPLETE_FRAME`. -/
def Obligations.TwoFlagsDelimitAFrame : Prop :=
  ∀ (between : List Octet) (s : State), admits (.octets (0x7E :: between ++ [0x7E])) s = true →
    ∃ t, exec (.deframe (.octets (0x7E :: between ++ [0x7E]))) s = .next t ∧
      t.status ≠ 0x03 ∧ t.status ≠ 0x04

/-! ## Framer and deframer together -/

/-- R151, derived, with R196: `FRAME X` followed by `DEFRAME OUT` ends OK with `X` again, for every sequence of every
admitted length; and so does `DEFRAME` of the wire frame of `X` in any state that admits it. `OUT` as a form of the
operand is the model's choice (log entry 9). -/
def Obligations.DeframeInvertsFrame : Prop :=
  (∀ (src : Operand) (s : State), admits src s = true →
    ∃ t, exec (.frame src) s = .next t ∧
      (admits .out t = true →
        ∃ u, exec (.deframe .out) t = .next u ∧ u.results = ⟨0x00, 0x0000, operandValue src s⟩)) ∧
  (∀ (xs : List Octet) (s : State), admits (.octets (wireOf xs)) s = true →
    ∃ u, exec (.deframe (.octets (wireOf xs))) s = .next u ∧ u.results = ⟨0x00, 0x0000, xs⟩)

/-- R150, derived: a frame is found at any bit offset: up to seven leading bits, all 0 or all 1, and up to seven bits
of either fill after it change nothing. -/
def Obligations.FrameIsFoundAtAnyBitOffset : Prop :=
  ∀ (xs capture : List Octet) (s : State) (j f : Nat) (lead fill : Bit), j < 8 → f < 8 →
    bitsOf capture = List.replicate j lead ++ bitsOf (wireOf xs) ++ List.replicate f fill →
    admits (.octets capture) s = true →
      ∃ t, exec (.deframe (.octets capture)) s = .next t ∧ t.results = ⟨0x00, 0x0000, xs⟩

/-- R152 (a) with R71, derived: inverting one pad bit of a frame, a 0 between the stuffed body and the closing flag,
does not change the result. -/
def Obligations.InvertedPadBitIsIgnored : Prop :=
  ∀ (xs capture : List Octet) (s : State) (k : Nat),
    8 + (stuff (bitsOf (wireBody xs))).length ≤ k → k + 8 < (bitsOf (wireOf xs)).length →
    bitsOf capture = (bitsOf (wireOf xs)).set k true →
    admits (.octets capture) s = true →
      ∃ t, exec (.deframe (.octets capture)) s = .next t ∧ t.results = ⟨0x00, 0x0000, xs⟩
end

