-- ==== Sys2Proof/Laws/Bits.lean ====
section
/-! SUPPORT. The small lemmas of the functions of R13. -/

namespace Sys2Proof.Machine

@[simp] theorem bitsMsb_length (b : Octet) : (bitsMsb b).length = 8 := rfl

@[simp] theorem bitsOf_nil : bitsOf [] = [] := rfl

@[simp] theorem bitsOf_cons (b : Octet) (xs : List Octet) : bitsOf (b :: xs) = bitsMsb b ++ bitsOf xs := rfl

@[simp] theorem bitsOf_append (xs ys : List Octet) : bitsOf (xs ++ ys) = bitsOf xs ++ bitsOf ys :=
  List.flatMap_append

@[simp] theorem bitsOf_length (xs : List Octet) : (bitsOf xs).length = 8 * xs.length := by
  induction xs with
  | nil => rfl
  | cons b xs ih => simp [ih]; omega

@[simp] theorem group8_nil : group8 [] = [] := rfl

/-- A whole octet in front of a stream is its first group. -/
theorem group8_eight (b7 b6 b5 b4 b3 b2 b1 b0 : Bit) (rest : List Bit) :
    group8 (b7 :: b6 :: b5 :: b4 :: b3 :: b2 :: b1 :: b0 :: rest) =
      octet [b7, b6, b5, b4, b3, b2, b1, b0] :: group8 rest := rfl

/-- Fewer than eight bits make no octet. -/
theorem group8_of_short (bs : List Bit) (h : bs.length < 8) : group8 bs = [] := by
  match bs, h with
  | [], _ => rfl
  | [_], _ => rfl
  | [_, _], _ => rfl
  | [_, _, _], _ => rfl
  | [_, _, _, _], _ => rfl
  | [_, _, _, _, _], _ => rfl
  | [_, _, _, _, _, _], _ => rfl
  | [_, _, _, _, _, _, _], _ => rfl
  | _ :: _ :: _ :: _ :: _ :: _ :: _ :: _ :: _, h => simp at h; omega

/-- The number of emitted octets (R13). -/
@[simp] theorem group8_length (bs : List Bit) : (group8 bs).length = bs.length / 8 := by
  induction bs using group8.induct with
  | case1 b7 b6 b5 b4 b3 b2 b1 b0 rest ih => simp [group8_eight, ih]; omega
  | case2 bs h =>
    have short : bs.length < 8 := by
      match bs, h with
      | [], _ => simp
      | [_], _ => simp
      | [_, _], _ => simp
      | [_, _, _], _ => simp
      | [_, _, _, _], _ => simp
      | [_, _, _, _, _], _ => simp
      | [_, _, _, _, _, _], _ => simp
      | [_, _, _, _, _, _, _], _ => simp
      | b7 :: b6 :: b5 :: b4 :: b3 :: b2 :: b1 :: b0 :: rest, h => exact absurd rfl (h b7 b6 b5 b4 b3 b2 b1 b0 rest)
    rw [group8_of_short bs short]; simp; omega

/-- An octet's bits, grouped, are the octet. -/
theorem octet_bitsMsb (b : Octet) : octet (bitsMsb b) = b := by
  revert b; decide +kernel

@[simp] theorem group8_bitsMsb_append (b : Octet) (bs : List Bit) : group8 (bitsMsb b ++ bs) = b :: group8 bs := by
  change octet (bitsMsb b) :: group8 bs = _
  rw [octet_bitsMsb]

/-- The octets of a stream that is a sequence of octets. -/
@[simp] theorem group8_bitsOf_append (xs : List Octet) (bs : List Bit) : group8 (bitsOf xs ++ bs) = xs ++ group8 bs := by
  induction xs with
  | nil => simp
  | cons b xs ih => simp [ih]

theorem bitrev8_bitrev8 (b : Octet) : bitrev8 (bitrev8 b) = b := by
  revert b; decide +kernel

@[simp] theorem dropLastN_length {α : Type} (n : Nat) (xs : List α) : (dropLastN n xs).length = xs.length - n := by
  simp [dropLastN]

/-- Taking back as many elements as were put behind a list leaves the list. -/
@[simp] theorem dropLastN_append {α : Type} (xs ys : List α) : dropLastN ys.length (xs ++ ys) = xs := by
  simp [dropLastN]

end Sys2Proof.Machine
end

