-- ==== Sys2Proof/Laws/State.lean ====
section
/-! SUPPORT. What each update of State does to each field: one lemma per field per update, true by unfolding, so that no
later proof unfolds a record update. -/

namespace Sys2Proof.Machine

/-! The command interface. -/

@[simp] theorem State.complete_crc (code : ResultCode) (v : Word) (o : List Octet) (s : State) : (s.complete code v o).crc = s.crc := rfl
@[simp] theorem State.complete_txOnes (code : ResultCode) (v : Word) (o : List Octet) (s : State) : (s.complete code v o).txOnes = s.txOnes := rfl
@[simp] theorem State.complete_txStream (code : ResultCode) (v : Word) (o : List Octet) (s : State) : (s.complete code v o).txStream = s.txStream := rfl
@[simp] theorem State.complete_rxState (code : ResultCode) (v : Word) (o : List Octet) (s : State) : (s.complete code v o).rxState = s.rxState := rfl
@[simp] theorem State.complete_rxSr (code : ResultCode) (v : Word) (o : List Octet) (s : State) : (s.complete code v o).rxSr = s.rxSr := rfl
@[simp] theorem State.complete_rxOnes (code : ResultCode) (v : Word) (o : List Octet) (s : State) : (s.complete code v o).rxOnes = s.rxOnes := rfl
@[simp] theorem State.complete_rxDbits (code : ResultCode) (v : Word) (o : List Octet) (s : State) : (s.complete code v o).rxDbits = s.rxDbits := rfl
@[simp] theorem State.complete_rxHist (code : ResultCode) (v : Word) (o : List Octet) (s : State) : (s.complete code v o).rxHist = s.rxHist := rfl
@[simp] theorem State.complete_cur (code : ResultCode) (v : Word) (o : List Octet) (s : State) : (s.complete code v o).cur = s.cur := rfl
@[simp] theorem State.complete_status (code : ResultCode) (v : Word) (o : List Octet) (s : State) : (s.complete code v o).status = statusOf code := rfl
@[simp] theorem State.complete_value (code : ResultCode) (v : Word) (o : List Octet) (s : State) : (s.complete code v o).value = v := rfl
@[simp] theorem State.complete_out (code : ResultCode) (v : Word) (o : List Octet) (s : State) : (s.complete code v o).out = o := rfl
@[simp] theorem State.complete_refusalMark (code : ResultCode) (v : Word) (o : List Octet) (s : State) : (s.complete code v o).refusalMark = s.refusalMark := rfl
@[simp] theorem State.complete_pending (code : ResultCode) (v : Word) (o : List Octet) (s : State) : (s.complete code v o).pending = s.pending := rfl
@[simp] theorem State.complete_maxInputOctets (code : ResultCode) (v : Word) (o : List Octet) (s : State) : (s.complete code v o).maxInputOctets = s.maxInputOctets := rfl

@[simp] theorem State.raise_crc (code : ResultCode) (s : State) : (s.raise code).crc = s.crc := rfl
@[simp] theorem State.raise_txOnes (code : ResultCode) (s : State) : (s.raise code).txOnes = s.txOnes := rfl
@[simp] theorem State.raise_txStream (code : ResultCode) (s : State) : (s.raise code).txStream = s.txStream := rfl
@[simp] theorem State.raise_rxState (code : ResultCode) (s : State) : (s.raise code).rxState = s.rxState := rfl
@[simp] theorem State.raise_rxSr (code : ResultCode) (s : State) : (s.raise code).rxSr = s.rxSr := rfl
@[simp] theorem State.raise_rxOnes (code : ResultCode) (s : State) : (s.raise code).rxOnes = s.rxOnes := rfl
@[simp] theorem State.raise_rxDbits (code : ResultCode) (s : State) : (s.raise code).rxDbits = s.rxDbits := rfl
@[simp] theorem State.raise_rxHist (code : ResultCode) (s : State) : (s.raise code).rxHist = s.rxHist := rfl
@[simp] theorem State.raise_cur (code : ResultCode) (s : State) : (s.raise code).cur = s.cur := rfl
@[simp] theorem State.raise_status (code : ResultCode) (s : State) : (s.raise code).status = statusOf code := rfl
@[simp] theorem State.raise_value (code : ResultCode) (s : State) : (s.raise code).value = 0x0000 := rfl
@[simp] theorem State.raise_out (code : ResultCode) (s : State) : (s.raise code).out = [] := rfl
@[simp] theorem State.raise_refusalMark (code : ResultCode) (s : State) : (s.raise code).refusalMark = s.refusalMark := rfl
@[simp] theorem State.raise_pending (code : ResultCode) (s : State) : (s.raise code).pending = s.pending := rfl
@[simp] theorem State.raise_maxInputOctets (code : ResultCode) (s : State) : (s.raise code).maxInputOctets = s.maxInputOctets := rfl

@[simp] theorem State.refuse_crc (s : State) : (s.refuse).crc = s.crc := rfl
@[simp] theorem State.refuse_txOnes (s : State) : (s.refuse).txOnes = s.txOnes := rfl
@[simp] theorem State.refuse_txStream (s : State) : (s.refuse).txStream = s.txStream := rfl
@[simp] theorem State.refuse_rxState (s : State) : (s.refuse).rxState = s.rxState := rfl
@[simp] theorem State.refuse_rxSr (s : State) : (s.refuse).rxSr = s.rxSr := rfl
@[simp] theorem State.refuse_rxOnes (s : State) : (s.refuse).rxOnes = s.rxOnes := rfl
@[simp] theorem State.refuse_rxDbits (s : State) : (s.refuse).rxDbits = s.rxDbits := rfl
@[simp] theorem State.refuse_rxHist (s : State) : (s.refuse).rxHist = s.rxHist := rfl
@[simp] theorem State.refuse_cur (s : State) : (s.refuse).cur = s.cur := rfl
@[simp] theorem State.refuse_status (s : State) : (s.refuse).status = s.status := rfl
@[simp] theorem State.refuse_value (s : State) : (s.refuse).value = s.value := rfl
@[simp] theorem State.refuse_out (s : State) : (s.refuse).out = s.out := rfl
@[simp] theorem State.refuse_refusalMark (s : State) : (s.refuse).refusalMark = true := rfl
@[simp] theorem State.refuse_pending (s : State) : (s.refuse).pending = s.pending := rfl
@[simp] theorem State.refuse_maxInputOctets (s : State) : (s.refuse).maxInputOctets = s.maxInputOctets := rfl

@[simp] theorem State.cursorStart_crc (s : State) : (s.cursorStart).crc = s.crc := rfl
@[simp] theorem State.cursorStart_txOnes (s : State) : (s.cursorStart).txOnes = s.txOnes := rfl
@[simp] theorem State.cursorStart_txStream (s : State) : (s.cursorStart).txStream = s.txStream := rfl
@[simp] theorem State.cursorStart_rxState (s : State) : (s.cursorStart).rxState = s.rxState := rfl
@[simp] theorem State.cursorStart_rxSr (s : State) : (s.cursorStart).rxSr = s.rxSr := rfl
@[simp] theorem State.cursorStart_rxOnes (s : State) : (s.cursorStart).rxOnes = s.rxOnes := rfl
@[simp] theorem State.cursorStart_rxDbits (s : State) : (s.cursorStart).rxDbits = s.rxDbits := rfl
@[simp] theorem State.cursorStart_rxHist (s : State) : (s.cursorStart).rxHist = s.rxHist := rfl
@[simp] theorem State.cursorStart_cur (s : State) : (s.cursorStart).cur = 0 := rfl
@[simp] theorem State.cursorStart_status (s : State) : (s.cursorStart).status = s.status := rfl
@[simp] theorem State.cursorStart_value (s : State) : (s.cursorStart).value = s.value := rfl
@[simp] theorem State.cursorStart_out (s : State) : (s.cursorStart).out = s.out := rfl
@[simp] theorem State.cursorStart_refusalMark (s : State) : (s.cursorStart).refusalMark = s.refusalMark := rfl
@[simp] theorem State.cursorStart_pending (s : State) : (s.cursorStart).pending = s.pending := rfl
@[simp] theorem State.cursorStart_maxInputOctets (s : State) : (s.cursorStart).maxInputOctets = s.maxInputOctets := rfl

@[simp] theorem State.cursorAdvance_crc (s : State) : (s.cursorAdvance).crc = s.crc := rfl
@[simp] theorem State.cursorAdvance_txOnes (s : State) : (s.cursorAdvance).txOnes = s.txOnes := rfl
@[simp] theorem State.cursorAdvance_txStream (s : State) : (s.cursorAdvance).txStream = s.txStream := rfl
@[simp] theorem State.cursorAdvance_rxState (s : State) : (s.cursorAdvance).rxState = s.rxState := rfl
@[simp] theorem State.cursorAdvance_rxSr (s : State) : (s.cursorAdvance).rxSr = s.rxSr := rfl
@[simp] theorem State.cursorAdvance_rxOnes (s : State) : (s.cursorAdvance).rxOnes = s.rxOnes := rfl
@[simp] theorem State.cursorAdvance_rxDbits (s : State) : (s.cursorAdvance).rxDbits = s.rxDbits := rfl
@[simp] theorem State.cursorAdvance_rxHist (s : State) : (s.cursorAdvance).rxHist = s.rxHist := rfl
@[simp] theorem State.cursorAdvance_cur (s : State) : (s.cursorAdvance).cur = s.cur + 1 := rfl
@[simp] theorem State.cursorAdvance_status (s : State) : (s.cursorAdvance).status = s.status := rfl
@[simp] theorem State.cursorAdvance_value (s : State) : (s.cursorAdvance).value = s.value := rfl
@[simp] theorem State.cursorAdvance_out (s : State) : (s.cursorAdvance).out = s.out := rfl
@[simp] theorem State.cursorAdvance_refusalMark (s : State) : (s.cursorAdvance).refusalMark = s.refusalMark := rfl
@[simp] theorem State.cursorAdvance_pending (s : State) : (s.cursorAdvance).pending = s.pending := rfl
@[simp] theorem State.cursorAdvance_maxInputOctets (s : State) : (s.cursorAdvance).maxInputOctets = s.maxInputOctets := rfl

@[simp] theorem State.takeMove_crc (s : State) : (s.takeMove).crc = s.crc := rfl
@[simp] theorem State.takeMove_txOnes (s : State) : (s.takeMove).txOnes = s.txOnes := rfl
@[simp] theorem State.takeMove_txStream (s : State) : (s.takeMove).txStream = s.txStream := rfl
@[simp] theorem State.takeMove_rxState (s : State) : (s.takeMove).rxState = s.rxState := rfl
@[simp] theorem State.takeMove_rxSr (s : State) : (s.takeMove).rxSr = s.rxSr := rfl
@[simp] theorem State.takeMove_rxOnes (s : State) : (s.takeMove).rxOnes = s.rxOnes := rfl
@[simp] theorem State.takeMove_rxDbits (s : State) : (s.takeMove).rxDbits = s.rxDbits := rfl
@[simp] theorem State.takeMove_rxHist (s : State) : (s.takeMove).rxHist = s.rxHist := rfl
@[simp] theorem State.takeMove_cur (s : State) : (s.takeMove).cur = s.cur := rfl
@[simp] theorem State.takeMove_status (s : State) : (s.takeMove).status = s.status := rfl
@[simp] theorem State.takeMove_value (s : State) : (s.takeMove).value = s.value := rfl
@[simp] theorem State.takeMove_out (s : State) : (s.takeMove).out = s.out := rfl
@[simp] theorem State.takeMove_refusalMark (s : State) : (s.takeMove).refusalMark = s.refusalMark := rfl
@[simp] theorem State.takeMove_pending (s : State) : (s.takeMove).pending = s.pending.tail := rfl
@[simp] theorem State.takeMove_maxInputOctets (s : State) : (s.takeMove).maxInputOctets = s.maxInputOctets := rfl

@[simp] theorem State.loadProgram_crc (program : List Command) (s : State) : (s.loadProgram program).crc = s.crc := rfl
@[simp] theorem State.loadProgram_txOnes (program : List Command) (s : State) : (s.loadProgram program).txOnes = s.txOnes := rfl
@[simp] theorem State.loadProgram_txStream (program : List Command) (s : State) : (s.loadProgram program).txStream = s.txStream := rfl
@[simp] theorem State.loadProgram_rxState (program : List Command) (s : State) : (s.loadProgram program).rxState = s.rxState := rfl
@[simp] theorem State.loadProgram_rxSr (program : List Command) (s : State) : (s.loadProgram program).rxSr = s.rxSr := rfl
@[simp] theorem State.loadProgram_rxOnes (program : List Command) (s : State) : (s.loadProgram program).rxOnes = s.rxOnes := rfl
@[simp] theorem State.loadProgram_rxDbits (program : List Command) (s : State) : (s.loadProgram program).rxDbits = s.rxDbits := rfl
@[simp] theorem State.loadProgram_rxHist (program : List Command) (s : State) : (s.loadProgram program).rxHist = s.rxHist := rfl
@[simp] theorem State.loadProgram_cur (program : List Command) (s : State) : (s.loadProgram program).cur = s.cur := rfl
@[simp] theorem State.loadProgram_status (program : List Command) (s : State) : (s.loadProgram program).status = s.status := rfl
@[simp] theorem State.loadProgram_value (program : List Command) (s : State) : (s.loadProgram program).value = s.value := rfl
@[simp] theorem State.loadProgram_out (program : List Command) (s : State) : (s.loadProgram program).out = s.out := rfl
@[simp] theorem State.loadProgram_refusalMark (program : List Command) (s : State) : (s.loadProgram program).refusalMark = s.refusalMark := rfl
@[simp] theorem State.loadProgram_pending (program : List Command) (s : State) : (s.loadProgram program).pending = program.map HostMove.issue := rfl
@[simp] theorem State.loadProgram_maxInputOctets (program : List Command) (s : State) : (s.loadProgram program).maxInputOctets = s.maxInputOctets := rfl

@[simp] theorem State.issueNext_crc (c : Command) (s : State) : (s.issueNext c).crc = s.crc := rfl
@[simp] theorem State.issueNext_txOnes (c : Command) (s : State) : (s.issueNext c).txOnes = s.txOnes := rfl
@[simp] theorem State.issueNext_txStream (c : Command) (s : State) : (s.issueNext c).txStream = s.txStream := rfl
@[simp] theorem State.issueNext_rxState (c : Command) (s : State) : (s.issueNext c).rxState = s.rxState := rfl
@[simp] theorem State.issueNext_rxSr (c : Command) (s : State) : (s.issueNext c).rxSr = s.rxSr := rfl
@[simp] theorem State.issueNext_rxOnes (c : Command) (s : State) : (s.issueNext c).rxOnes = s.rxOnes := rfl
@[simp] theorem State.issueNext_rxDbits (c : Command) (s : State) : (s.issueNext c).rxDbits = s.rxDbits := rfl
@[simp] theorem State.issueNext_rxHist (c : Command) (s : State) : (s.issueNext c).rxHist = s.rxHist := rfl
@[simp] theorem State.issueNext_cur (c : Command) (s : State) : (s.issueNext c).cur = s.cur := rfl
@[simp] theorem State.issueNext_status (c : Command) (s : State) : (s.issueNext c).status = s.status := rfl
@[simp] theorem State.issueNext_value (c : Command) (s : State) : (s.issueNext c).value = s.value := rfl
@[simp] theorem State.issueNext_out (c : Command) (s : State) : (s.issueNext c).out = s.out := rfl
@[simp] theorem State.issueNext_refusalMark (c : Command) (s : State) : (s.issueNext c).refusalMark = s.refusalMark := rfl
@[simp] theorem State.issueNext_pending (c : Command) (s : State) : (s.issueNext c).pending = HostMove.issue c :: s.pending := rfl
@[simp] theorem State.issueNext_maxInputOctets (c : Command) (s : State) : (s.issueNext c).maxInputOctets = s.maxInputOctets := rfl

@[simp] theorem State.resetBlock_crc (s : State) : (s.resetBlock).crc = Config.crcSeed := rfl
@[simp] theorem State.resetBlock_txOnes (s : State) : (s.resetBlock).txOnes = 0 := rfl
@[simp] theorem State.resetBlock_txStream (s : State) : (s.resetBlock).txStream = [] := rfl
@[simp] theorem State.resetBlock_rxState (s : State) : (s.resetBlock).rxState = .searching := rfl
@[simp] theorem State.resetBlock_rxSr (s : State) : (s.resetBlock).rxSr = Config.rxSrInit := rfl
@[simp] theorem State.resetBlock_rxOnes (s : State) : (s.resetBlock).rxOnes = 0 := rfl
@[simp] theorem State.resetBlock_rxDbits (s : State) : (s.resetBlock).rxDbits = [] := rfl
@[simp] theorem State.resetBlock_rxHist (s : State) : (s.resetBlock).rxHist = 0 := rfl
@[simp] theorem State.resetBlock_cur (s : State) : (s.resetBlock).cur = 0 := rfl
@[simp] theorem State.resetBlock_status (s : State) : (s.resetBlock).status = 0x00 := rfl
@[simp] theorem State.resetBlock_value (s : State) : (s.resetBlock).value = 0x0000 := rfl
@[simp] theorem State.resetBlock_out (s : State) : (s.resetBlock).out = [] := rfl
@[simp] theorem State.resetBlock_refusalMark (s : State) : (s.resetBlock).refusalMark = s.refusalMark := rfl
@[simp] theorem State.resetBlock_pending (s : State) : (s.resetBlock).pending = s.pending := rfl
@[simp] theorem State.resetBlock_maxInputOctets (s : State) : (s.resetBlock).maxInputOctets = s.maxInputOctets := rfl

/-! The units. -/

@[simp] theorem State.crcInit_crc (s : State) : (s.crcInit).crc = Config.crcSeed := rfl
@[simp] theorem State.crcInit_txOnes (s : State) : (s.crcInit).txOnes = s.txOnes := rfl
@[simp] theorem State.crcInit_txStream (s : State) : (s.crcInit).txStream = s.txStream := rfl
@[simp] theorem State.crcInit_rxState (s : State) : (s.crcInit).rxState = s.rxState := rfl
@[simp] theorem State.crcInit_rxSr (s : State) : (s.crcInit).rxSr = s.rxSr := rfl
@[simp] theorem State.crcInit_rxOnes (s : State) : (s.crcInit).rxOnes = s.rxOnes := rfl
@[simp] theorem State.crcInit_rxDbits (s : State) : (s.crcInit).rxDbits = s.rxDbits := rfl
@[simp] theorem State.crcInit_rxHist (s : State) : (s.crcInit).rxHist = s.rxHist := rfl
@[simp] theorem State.crcInit_cur (s : State) : (s.crcInit).cur = s.cur := rfl
@[simp] theorem State.crcInit_status (s : State) : (s.crcInit).status = s.status := rfl
@[simp] theorem State.crcInit_value (s : State) : (s.crcInit).value = s.value := rfl
@[simp] theorem State.crcInit_out (s : State) : (s.crcInit).out = s.out := rfl
@[simp] theorem State.crcInit_refusalMark (s : State) : (s.crcInit).refusalMark = s.refusalMark := rfl
@[simp] theorem State.crcInit_pending (s : State) : (s.crcInit).pending = s.pending := rfl
@[simp] theorem State.crcInit_maxInputOctets (s : State) : (s.crcInit).maxInputOctets = s.maxInputOctets := rfl

@[simp] theorem State.crcStep_crc (s : State) (b : Octet) : (s.crcStep b).crc = crcNext s.crc b := rfl
@[simp] theorem State.crcStep_txOnes (s : State) (b : Octet) : (s.crcStep b).txOnes = s.txOnes := rfl
@[simp] theorem State.crcStep_txStream (s : State) (b : Octet) : (s.crcStep b).txStream = s.txStream := rfl
@[simp] theorem State.crcStep_rxState (s : State) (b : Octet) : (s.crcStep b).rxState = s.rxState := rfl
@[simp] theorem State.crcStep_rxSr (s : State) (b : Octet) : (s.crcStep b).rxSr = s.rxSr := rfl
@[simp] theorem State.crcStep_rxOnes (s : State) (b : Octet) : (s.crcStep b).rxOnes = s.rxOnes := rfl
@[simp] theorem State.crcStep_rxDbits (s : State) (b : Octet) : (s.crcStep b).rxDbits = s.rxDbits := rfl
@[simp] theorem State.crcStep_rxHist (s : State) (b : Octet) : (s.crcStep b).rxHist = s.rxHist := rfl
@[simp] theorem State.crcStep_cur (s : State) (b : Octet) : (s.crcStep b).cur = s.cur := rfl
@[simp] theorem State.crcStep_status (s : State) (b : Octet) : (s.crcStep b).status = s.status := rfl
@[simp] theorem State.crcStep_value (s : State) (b : Octet) : (s.crcStep b).value = s.value := rfl
@[simp] theorem State.crcStep_out (s : State) (b : Octet) : (s.crcStep b).out = s.out := rfl
@[simp] theorem State.crcStep_refusalMark (s : State) (b : Octet) : (s.crcStep b).refusalMark = s.refusalMark := rfl
@[simp] theorem State.crcStep_pending (s : State) (b : Octet) : (s.crcStep b).pending = s.pending := rfl
@[simp] theorem State.crcStep_maxInputOctets (s : State) (b : Octet) : (s.crcStep b).maxInputOctets = s.maxInputOctets := rfl

@[simp] theorem State.txStart_crc (s : State) : (s.txStart).crc = s.crc := rfl
@[simp] theorem State.txStart_txOnes (s : State) : (s.txStart).txOnes = 0 := rfl
@[simp] theorem State.txStart_txStream (s : State) : (s.txStart).txStream = [] := rfl
@[simp] theorem State.txStart_rxState (s : State) : (s.txStart).rxState = s.rxState := rfl
@[simp] theorem State.txStart_rxSr (s : State) : (s.txStart).rxSr = s.rxSr := rfl
@[simp] theorem State.txStart_rxOnes (s : State) : (s.txStart).rxOnes = s.rxOnes := rfl
@[simp] theorem State.txStart_rxDbits (s : State) : (s.txStart).rxDbits = s.rxDbits := rfl
@[simp] theorem State.txStart_rxHist (s : State) : (s.txStart).rxHist = s.rxHist := rfl
@[simp] theorem State.txStart_cur (s : State) : (s.txStart).cur = s.cur := rfl
@[simp] theorem State.txStart_status (s : State) : (s.txStart).status = s.status := rfl
@[simp] theorem State.txStart_value (s : State) : (s.txStart).value = s.value := rfl
@[simp] theorem State.txStart_out (s : State) : (s.txStart).out = s.out := rfl
@[simp] theorem State.txStart_refusalMark (s : State) : (s.txStart).refusalMark = s.refusalMark := rfl
@[simp] theorem State.txStart_pending (s : State) : (s.txStart).pending = s.pending := rfl
@[simp] theorem State.txStart_maxInputOctets (s : State) : (s.txStart).maxInputOctets = s.maxInputOctets := rfl

@[simp] theorem State.txStepZero_crc (s : State) : (s.txStepZero).crc = s.crc := rfl
@[simp] theorem State.txStepZero_txOnes (s : State) : (s.txStepZero).txOnes = 0 := rfl
@[simp] theorem State.txStepZero_txStream (s : State) : (s.txStepZero).txStream = s.txStream ++ [false] := rfl
@[simp] theorem State.txStepZero_rxState (s : State) : (s.txStepZero).rxState = s.rxState := rfl
@[simp] theorem State.txStepZero_rxSr (s : State) : (s.txStepZero).rxSr = s.rxSr := rfl
@[simp] theorem State.txStepZero_rxOnes (s : State) : (s.txStepZero).rxOnes = s.rxOnes := rfl
@[simp] theorem State.txStepZero_rxDbits (s : State) : (s.txStepZero).rxDbits = s.rxDbits := rfl
@[simp] theorem State.txStepZero_rxHist (s : State) : (s.txStepZero).rxHist = s.rxHist := rfl
@[simp] theorem State.txStepZero_cur (s : State) : (s.txStepZero).cur = s.cur := rfl
@[simp] theorem State.txStepZero_status (s : State) : (s.txStepZero).status = s.status := rfl
@[simp] theorem State.txStepZero_value (s : State) : (s.txStepZero).value = s.value := rfl
@[simp] theorem State.txStepZero_out (s : State) : (s.txStepZero).out = s.out := rfl
@[simp] theorem State.txStepZero_refusalMark (s : State) : (s.txStepZero).refusalMark = s.refusalMark := rfl
@[simp] theorem State.txStepZero_pending (s : State) : (s.txStepZero).pending = s.pending := rfl
@[simp] theorem State.txStepZero_maxInputOctets (s : State) : (s.txStepZero).maxInputOctets = s.maxInputOctets := rfl

@[simp] theorem State.rxStart_crc (s : State) : (s.rxStart).crc = s.crc := rfl
@[simp] theorem State.rxStart_txOnes (s : State) : (s.rxStart).txOnes = s.txOnes := rfl
@[simp] theorem State.rxStart_txStream (s : State) : (s.rxStart).txStream = s.txStream := rfl
@[simp] theorem State.rxStart_rxState (s : State) : (s.rxStart).rxState = .searching := rfl
@[simp] theorem State.rxStart_rxSr (s : State) : (s.rxStart).rxSr = Config.rxSrInit := rfl
@[simp] theorem State.rxStart_rxOnes (s : State) : (s.rxStart).rxOnes = 0 := rfl
@[simp] theorem State.rxStart_rxDbits (s : State) : (s.rxStart).rxDbits = [] := rfl
@[simp] theorem State.rxStart_rxHist (s : State) : (s.rxStart).rxHist = 0 := rfl
@[simp] theorem State.rxStart_cur (s : State) : (s.rxStart).cur = 0 := rfl
@[simp] theorem State.rxStart_status (s : State) : (s.rxStart).status = s.status := rfl
@[simp] theorem State.rxStart_value (s : State) : (s.rxStart).value = s.value := rfl
@[simp] theorem State.rxStart_out (s : State) : (s.rxStart).out = s.out := rfl
@[simp] theorem State.rxStart_refusalMark (s : State) : (s.rxStart).refusalMark = s.refusalMark := rfl
@[simp] theorem State.rxStart_pending (s : State) : (s.rxStart).pending = s.pending := rfl
@[simp] theorem State.rxStart_maxInputOctets (s : State) : (s.rxStart).maxInputOctets = s.maxInputOctets := rfl

@[simp] theorem State.rxShift_crc (t : Bit) (s : State) : (s.rxShift t).crc = s.crc := rfl
@[simp] theorem State.rxShift_txOnes (t : Bit) (s : State) : (s.rxShift t).txOnes = s.txOnes := rfl
@[simp] theorem State.rxShift_txStream (t : Bit) (s : State) : (s.rxShift t).txStream = s.txStream := rfl
@[simp] theorem State.rxShift_rxState (t : Bit) (s : State) : (s.rxShift t).rxState = s.rxState := rfl
@[simp] theorem State.rxShift_rxSr (t : Bit) (s : State) : (s.rxShift t).rxSr = (s.rxSr <<< 1) ||| (BitVec.ofBool t).setWidth 8 := rfl
@[simp] theorem State.rxShift_rxOnes (t : Bit) (s : State) : (s.rxShift t).rxOnes = s.rxOnes := rfl
@[simp] theorem State.rxShift_rxDbits (t : Bit) (s : State) : (s.rxShift t).rxDbits = s.rxDbits := rfl
@[simp] theorem State.rxShift_rxHist (t : Bit) (s : State) : (s.rxShift t).rxHist = s.rxHist := rfl
@[simp] theorem State.rxShift_cur (t : Bit) (s : State) : (s.rxShift t).cur = s.cur + 1 := rfl
@[simp] theorem State.rxShift_status (t : Bit) (s : State) : (s.rxShift t).status = s.status := rfl
@[simp] theorem State.rxShift_value (t : Bit) (s : State) : (s.rxShift t).value = s.value := rfl
@[simp] theorem State.rxShift_out (t : Bit) (s : State) : (s.rxShift t).out = s.out := rfl
@[simp] theorem State.rxShift_refusalMark (t : Bit) (s : State) : (s.rxShift t).refusalMark = s.refusalMark := rfl
@[simp] theorem State.rxShift_pending (t : Bit) (s : State) : (s.rxShift t).pending = s.pending := rfl
@[simp] theorem State.rxShift_maxInputOctets (t : Bit) (s : State) : (s.rxShift t).maxInputOctets = s.maxInputOctets := rfl

@[simp] theorem State.rxEnterFrame_crc (s : State) : (s.rxEnterFrame).crc = s.crc := rfl
@[simp] theorem State.rxEnterFrame_txOnes (s : State) : (s.rxEnterFrame).txOnes = s.txOnes := rfl
@[simp] theorem State.rxEnterFrame_txStream (s : State) : (s.rxEnterFrame).txStream = s.txStream := rfl
@[simp] theorem State.rxEnterFrame_rxState (s : State) : (s.rxEnterFrame).rxState = .inFrame := rfl
@[simp] theorem State.rxEnterFrame_rxSr (s : State) : (s.rxEnterFrame).rxSr = s.rxSr := rfl
@[simp] theorem State.rxEnterFrame_rxOnes (s : State) : (s.rxEnterFrame).rxOnes = 0 := rfl
@[simp] theorem State.rxEnterFrame_rxDbits (s : State) : (s.rxEnterFrame).rxDbits = [] := rfl
@[simp] theorem State.rxEnterFrame_rxHist (s : State) : (s.rxEnterFrame).rxHist = 0 := rfl
@[simp] theorem State.rxEnterFrame_cur (s : State) : (s.rxEnterFrame).cur = s.cur := rfl
@[simp] theorem State.rxEnterFrame_status (s : State) : (s.rxEnterFrame).status = s.status := rfl
@[simp] theorem State.rxEnterFrame_value (s : State) : (s.rxEnterFrame).value = s.value := rfl
@[simp] theorem State.rxEnterFrame_out (s : State) : (s.rxEnterFrame).out = s.out := rfl
@[simp] theorem State.rxEnterFrame_refusalMark (s : State) : (s.rxEnterFrame).refusalMark = s.refusalMark := rfl
@[simp] theorem State.rxEnterFrame_pending (s : State) : (s.rxEnterFrame).pending = s.pending := rfl
@[simp] theorem State.rxEnterFrame_maxInputOctets (s : State) : (s.rxEnterFrame).maxInputOctets = s.maxInputOctets := rfl

@[simp] theorem State.rxRecord_crc (a : Bit) (s : State) : (s.rxRecord a).crc = s.crc := rfl
@[simp] theorem State.rxRecord_txOnes (a : Bit) (s : State) : (s.rxRecord a).txOnes = s.txOnes := rfl
@[simp] theorem State.rxRecord_txStream (a : Bit) (s : State) : (s.rxRecord a).txStream = s.txStream := rfl
@[simp] theorem State.rxRecord_rxState (a : Bit) (s : State) : (s.rxRecord a).rxState = s.rxState := rfl
@[simp] theorem State.rxRecord_rxSr (a : Bit) (s : State) : (s.rxRecord a).rxSr = s.rxSr := rfl
@[simp] theorem State.rxRecord_rxOnes (a : Bit) (s : State) : (s.rxRecord a).rxOnes = s.rxOnes := rfl
@[simp] theorem State.rxRecord_rxDbits (a : Bit) (s : State) : (s.rxRecord a).rxDbits = s.rxDbits := rfl
@[simp] theorem State.rxRecord_rxHist (a : Bit) (s : State) : (s.rxRecord a).rxHist = (s.rxHist <<< 1) ||| (BitVec.ofBool a).setWidth 7 := rfl
@[simp] theorem State.rxRecord_cur (a : Bit) (s : State) : (s.rxRecord a).cur = s.cur := rfl
@[simp] theorem State.rxRecord_status (a : Bit) (s : State) : (s.rxRecord a).status = s.status := rfl
@[simp] theorem State.rxRecord_value (a : Bit) (s : State) : (s.rxRecord a).value = s.value := rfl
@[simp] theorem State.rxRecord_out (a : Bit) (s : State) : (s.rxRecord a).out = s.out := rfl
@[simp] theorem State.rxRecord_refusalMark (a : Bit) (s : State) : (s.rxRecord a).refusalMark = s.refusalMark := rfl
@[simp] theorem State.rxRecord_pending (a : Bit) (s : State) : (s.rxRecord a).pending = s.pending := rfl
@[simp] theorem State.rxRecord_maxInputOctets (a : Bit) (s : State) : (s.rxRecord a).maxInputOctets = s.maxInputOctets := rfl

@[simp] theorem State.rxRetract_crc (s : State) : (s.rxRetract).crc = s.crc := rfl
@[simp] theorem State.rxRetract_txOnes (s : State) : (s.rxRetract).txOnes = s.txOnes := rfl
@[simp] theorem State.rxRetract_txStream (s : State) : (s.rxRetract).txStream = s.txStream := rfl
@[simp] theorem State.rxRetract_rxState (s : State) : (s.rxRetract).rxState = s.rxState := rfl
@[simp] theorem State.rxRetract_rxSr (s : State) : (s.rxRetract).rxSr = s.rxSr := rfl
@[simp] theorem State.rxRetract_rxOnes (s : State) : (s.rxRetract).rxOnes = s.rxOnes := rfl
@[simp] theorem State.rxRetract_rxDbits (s : State) : (s.rxRetract).rxDbits = dropLastN (popcount7 s.rxHist) s.rxDbits := rfl
@[simp] theorem State.rxRetract_rxHist (s : State) : (s.rxRetract).rxHist = s.rxHist := rfl
@[simp] theorem State.rxRetract_cur (s : State) : (s.rxRetract).cur = s.cur := rfl
@[simp] theorem State.rxRetract_status (s : State) : (s.rxRetract).status = s.status := rfl
@[simp] theorem State.rxRetract_value (s : State) : (s.rxRetract).value = s.value := rfl
@[simp] theorem State.rxRetract_out (s : State) : (s.rxRetract).out = s.out := rfl
@[simp] theorem State.rxRetract_refusalMark (s : State) : (s.rxRetract).refusalMark = s.refusalMark := rfl
@[simp] theorem State.rxRetract_pending (s : State) : (s.rxRetract).pending = s.pending := rfl
@[simp] theorem State.rxRetract_maxInputOctets (s : State) : (s.rxRetract).maxInputOctets = s.maxInputOctets := rfl

end Sys2Proof.Machine
end

