-- ==== Sys2Proof/Laws/Crc.lean ====
section
/-! SUPPORT. The CRC unit: a run of it changes `crc` alone, and the loop of `CRC_CALC` also the cursor. -/

namespace Sys2Proof.Machine

/-- The register after any number of `crc_step`s. -/
theorem crcStep_foldl (xs : List Octet) (s : State) :
    xs.foldl State.crcStep s = { s with crc := xs.foldl crcNext s.crc } := by
  induction xs generalizing s with
  | nil => rfl
  | cons b xs ih => simpa using ih (s.crcStep b)

/-- What a run of the CRC unit does, whole. -/
theorem crcRun_eq (xs : List Octet) (s : State) :
    s.crcRun xs = { s with crc := xs.foldl crcNext Config.crcSeed } :=
  crcStep_foldl xs s.crcInit

/-- The state after any number of passes of the loop of `CRC_CALC`. -/
theorem crcCalcStep_foldl (xs : List Octet) (s : State) :
    xs.foldl State.crcCalcStep s = { s with crc := xs.foldl crcNext s.crc, cur := s.cur + xs.length } := by
  induction xs generalizing s with
  | nil => rfl
  | cons b xs ih =>
    rw [List.foldl_cons, ih]
    simp [State.crcCalcStep, State.cursorAdvance, State.crcStep, Nat.add_assoc, Nat.add_comm 1]

/-- What the loop of `CRC_CALC` does, whole. -/
theorem crcCalcLoop_eq (xs : List Octet) (s : State) :
    s.crcCalcLoop xs = { s with crc := xs.foldl crcNext Config.crcSeed, cur := xs.length } := by
  rw [State.crcCalcLoop, crcCalcStep_foldl]
  simp [State.crcInit, State.cursorStart]

end Sys2Proof.Machine
end

