-- ==== Sys2Proof/Laws/Deframer.lean ====
section
/-! SUPPORT. The deframer: what a bit step and the bit walk leave alone, and that a terminal state reads no bit. -/

namespace Sys2Proof.Machine

/-- The state with the deframer's registers and the cursor of another. -/
def withRxOf (u s : State) : State :=
  { s with
    rxState := u.rxState
    rxSr := u.rxSr
    rxOnes := u.rxOnes
    rxDbits := u.rxDbits
    rxHist := u.rxHist
    cur := u.cur }

theorem withRxOf_self (s : State) : withRxOf s s = s := rfl

/-- A bit step changes the deframer's registers and the cursor alone. -/
theorem rxStep_frame (s : State) (t : Bit) : s.rxStep t = withRxOf (s.rxStep t) s := by
  unfold State.rxStep
  split
  · unfold State.rxSearchStep; split <;> rfl
  · unfold State.rxFrameStep
    split
    · rfl
    · split
      · unfold State.rxOneStep; split <;> rfl
      · unfold State.rxZeroStep; split <;> rfl
  · rfl
  · rfl

/-- So do any number of bit steps. -/
theorem rxStep_foldl_frame (bits : List Bit) (s : State) :
    bits.foldl State.rxStep s = withRxOf (bits.foldl State.rxStep s) s := by
  induction bits generalizing s with
  | nil => rfl
  | cons t bits ih =>
    have h := ih (s.rxStep t)
    rw [List.foldl_cons]
    generalize bits.foldl State.rxStep (s.rxStep t) = u at h ⊢
    rw [h, rxStep_frame s t]
    rfl

/-- What the bit walk leaves alone. -/
theorem rxWalk_frame (bits : List Bit) (s : State) : s.rxWalk bits = withRxOf (s.rxWalk bits) s :=
  rxStep_foldl_frame bits s.rxStart

/-- `DONE` reads no bit. -/
theorem rxStep_done {s : State} (h : s.rxState = .done) (t : Bit) : s.rxStep t = s := by
  simp [State.rxStep, h]

/-- `FAILED` reads no bit. -/
theorem rxStep_failed {s : State} (h : s.rxState = .failed) (t : Bit) : s.rxStep t = s := by
  simp [State.rxStep, h]

/-- The walk over a stream in two parts. -/
theorem rxWalk_append (xs ys : List Bit) (s : State) :
    s.rxWalk (xs ++ ys) = ys.foldl State.rxStep (s.rxWalk xs) := by
  simp [State.rxWalk, List.foldl_append]

/-- The checksum check ends in one of two results, and changes `crc` and the result registers alone. -/
theorem rxCheck_cases (octets : List Octet) (s : State) :
    rxCheck octets s =
        (s.crcRun (receivedData octets)).complete .ok 0x0000 ((receivedData octets).map bitrev8) ∨
      rxCheck octets s = (s.crcRun (receivedData octets)).raise .crcMismatch := by
  unfold rxCheck
  dsimp only
  split
  · exact .inl rfl
  · exact .inr rfl

/-- Everything the end of `DEFRAME` can do. -/
theorem rxConclude_cases (s : State) :
    (s.rxState = .searching ∧ rxConclude s = s.raise .frameNotFound) ∨
      (s.rxState = .inFrame ∧ rxConclude s = s.raise .incompleteFrame) ∨
      (s.rxState = .failed ∧ rxConclude s = s.raise .bitStuffViolation) ∨
      (s.rxState = .done ∧ (group8 s.rxRetract.rxDbits).length < 2 ∧ rxConclude s = s.rxRetract.raise .crcMismatch) ∨
      (s.rxState = .done ∧ 2 ≤ (group8 s.rxRetract.rxDbits).length ∧
        rxConclude s = rxCheck (group8 s.rxRetract.rxDbits) s.rxRetract) := by
  cases h : s.rxState with
  | searching => exact .inl ⟨rfl, by simp [rxConclude, h]⟩
  | inFrame => exact .inr (.inl ⟨rfl, by simp [rxConclude, h]⟩)
  | failed => exact .inr (.inr (.inl ⟨rfl, by simp [rxConclude, h]⟩))
  | done =>
    by_cases hk : (group8 s.rxRetract.rxDbits).length < 2
    · exact .inr (.inr (.inr (.inl ⟨rfl, hk, by simp only [rxConclude, h, rxFinish, hk, if_true]⟩)))
    · exact .inr (.inr (.inr (.inr ⟨rfl, by omega, by simp only [rxConclude, h, rxFinish, hk, if_false]⟩)))

end Sys2Proof.Machine
end

