-- ==== Sys2Proof/Laws/Framer.lean ====
section
/-! SUPPORT. The framer: what its loops change and what they leave alone. -/

namespace Sys2Proof.Machine

/-- A stuffer step changes the counter and the stream alone. -/
theorem txStep_frame (s : State) (t : Bit) :
    s.txStep t = { s with txOnes := (s.txStep t).txOnes, txStream := (s.txStep t).txStream } := by
  unfold State.txStep State.txStepOne State.txStepZero
  split
  · split <;> rfl
  · rfl

/-- So do any number of stuffer steps. -/
theorem txStep_foldl_frame (bits : List Bit) (s : State) :
    bits.foldl State.txStep s =
      { s with
        txOnes := (bits.foldl State.txStep s).txOnes
        txStream := (bits.foldl State.txStep s).txStream } := by
  induction bits generalizing s with
  | nil => rfl
  | cons t bits ih =>
    have h := ih (s.txStep t)
    rw [List.foldl_cons]
    generalize bits.foldl State.txStep (s.txStep t) = u at h ⊢
    rw [h, txStep_frame s t]

/-- What a run of the stuffer leaves alone. -/
theorem txRun_frame (bits : List Bit) (s : State) :
    s.txRun bits = { s with txOnes := (s.txRun bits).txOnes, txStream := (s.txRun bits).txStream } :=
  txStep_foldl_frame bits s.txStart

/-- The cursor after any number of advances; nothing else changes. -/
theorem cursorAdvance_foldl (xs : List Octet) (s : State) :
    xs.foldl (fun s _ => s.cursorAdvance) s = { s with cur := s.cur + xs.length } := by
  induction xs generalizing s with
  | nil => rfl
  | cons b xs ih =>
    rw [List.foldl_cons, ih]
    simp [State.cursorAdvance, Nat.add_assoc, Nat.add_comm 1]

/-- What the reversal loop does to the state, whole. -/
theorem reverseLoop_eq (xs : List Octet) (s : State) : s.reverseLoop xs = { s with cur := xs.length } := by
  rw [State.reverseLoop, cursorAdvance_foldl]
  simp [State.cursorStart]

end Sys2Proof.Machine
end

