-- ==== Sys2Proof/Laws/Operands.lean ====
section
/-! SUPPORT. Operands: what a command with an octet-sequence operand can answer. -/

namespace Sys2Proof.Machine

@[simp] theorem operandValue_octets (xs : List Octet) (s : State) : operandValue (.octets xs) s = xs := rfl

@[simp] theorem operandValue_out (s : State) : operandValue .out s = s.out := rfl

/-- A written operand is admitted exactly when it is well formed under the state's limit. -/
theorem admits_octets (xs : List Octet) (s : State) :
    admits (.octets xs) s = (Operand.octets xs).wellFormed s.maxInputOctets := rfl

/-- Without a limit every operand is admitted. -/
theorem admits_unbounded (src : Operand) {s : State} (h : s.maxInputOctets = none) : admits src s = true := by
  simp [admits, h]

/-- Without a limit every command is admitted. -/
theorem admitsInstr_unbounded (i : Instr) {s : State} (h : s.maxInputOctets = none) : admitsInstr i s = true := by
  cases i <;> simp [admitsInstr, admits_unbounded _ h]

/-- A command with a written operand is admitted exactly when it is well formed under the state's limit. -/
theorem admitsInstr_resolved (i : Instr) (s : State) (h : i.resolved = true) :
    admitsInstr i s = i.wellFormed s.maxInputOctets := by
  cases i with
  | crcTableRead idx => rfl
  | crcCalc src | frame src | deframe src =>
    cases src with
    | octets xs => rfl
    | out => cases h

/-- An operand is refused only under a limit that it exceeds (R65). -/
theorem admits_eq_false_iff (src : Operand) (s : State) :
    admits src s = false ↔ ∃ m, s.maxInputOctets = some m ∧ m < (operandValue src s).length := by
  unfold admits
  cases s.maxInputOctets with
  | none => simp
  | some m => simp

/-- An admitted operand runs the command. -/
theorem withOperand_admitted {run : List Octet → State → State} {src : Operand} {s : State} (h : admits src s = true) :
    withOperand run src s = .next (run (operandValue src s) s) := by
  simp [withOperand, h]

/-- An operand that is too long refuses the command. -/
theorem withOperand_oversize {run : List Octet → State → State} {src : Operand} {s : State}
    (h : admits src s = false) : withOperand run src s = .next s.refuse := by
  simp [withOperand, h]

/-- Everything a command with an octet-sequence operand can answer. -/
theorem withOperand_next {run : List Octet → State → State} {src : Operand} {s t : State}
    (h : withOperand run src s = .next t) :
    (admits src s = true ∧ t = run (operandValue src s) s) ∨ (admits src s = false ∧ t = s.refuse) := by
  unfold withOperand at h
  split at h
  · next ha => exact .inl ⟨ha, by injection h with h; exact h.symm⟩
  · next ha => exact .inr ⟨by simpa using ha, by injection h with h; exact h.symm⟩

end Sys2Proof.Machine
end

