-- ==== Sys2Proof/Laws/PerInstr.lean ====
section
/-! SUPPORT. The family of statements made once for each command: its opcode is one of the four of R60, and so none
of the reserved ones of R64. -/

/-- The command's opcode octet is one of `0x01` to `0x04` (R60), so it is not reserved (R64). -/
def Sys2Proof.Laws.OpcodeAssigned.Statement (i : Sys2Proof.Instr) : Prop :=
  1 ≤ (Sys2Proof.encode i).opcode.toNat ∧ (Sys2Proof.encode i).opcode.toNat ≤ 4

theorem Sys2Proof.Laws.OpcodeAssigned.crcTableRead (idx : Sys2Proof.Octet) :
    Sys2Proof.Laws.OpcodeAssigned.Statement (.crcTableRead idx) := by
  constructor <;> exact of_decide_eq_true rfl

theorem Sys2Proof.Laws.OpcodeAssigned.crcCalc (src : Sys2Proof.Operand) :
    Sys2Proof.Laws.OpcodeAssigned.Statement (.crcCalc src) := by
  constructor <;> exact of_decide_eq_true rfl

theorem Sys2Proof.Laws.OpcodeAssigned.frame (src : Sys2Proof.Operand) :
    Sys2Proof.Laws.OpcodeAssigned.Statement (.frame src) := by
  constructor <;> exact of_decide_eq_true rfl

theorem Sys2Proof.Laws.OpcodeAssigned.deframe (src : Sys2Proof.Operand) :
    Sys2Proof.Laws.OpcodeAssigned.Statement (.deframe src) := by
  constructor <;> exact of_decide_eq_true rfl
end

