-- ==== Sys2Proof/Laws/Step.lean ====
section
/-! SUPPORT. Everything one step can do, said once. -/

namespace Sys2Proof.Machine

/-- The cases of a step that answers a next state. -/
theorem step_cases {s t : State} (h : step s = .next t) :
    (s.pending = [] ∧ t = s) ∨
      (∃ rest, s.pending = .reset :: rest ∧ t = s.takeMove.resetBlock) ∨
      (∃ c rest i, s.pending = .issue c :: rest ∧ decode c = .instr i ∧ exec i s.takeMove = .next t) ∨
      (∃ c rest op, s.pending = .issue c :: rest ∧ decode c = .rejected (.reservedOpcode op) ∧
        t = s.takeMove.refuse) := by
  unfold step nextRequest at h
  cases hp : s.pending with
  | nil => rw [hp] at h; injection h with h; exact .inl ⟨rfl, h.symm⟩
  | cons m rest =>
    rw [hp] at h
    cases m with
    | reset => injection h with h; exact .inr (.inl ⟨rest, rfl, h.symm⟩)
    | issue c =>
      cases hd : decode c with
      | instr i =>
        simp only [hd, requestOf] at h
        exact .inr (.inr (.inl ⟨c, rest, i, rfl, hd, h⟩))
      | rejected e =>
        simp only [hd, requestOf] at h
        cases e with
        | reservedOpcode op =>
          simp only [execRejected] at h
          injection h with h
          exact .inr (.inr (.inr ⟨c, rest, op, rfl, hd, h.symm⟩))
        | operandForm op => simp [execRejected] at h

end Sys2Proof.Machine
end

