-- ==== Sys2Proof/Tests/Slice0.lean ====
section
/-! SUPPORT. Tests of the model on fixed values, each taken from the spec's own words or vectors
(spec/95_test_vectors.md), and for each statement with hypotheses a concrete case that meets them all. -/

namespace Sys2Proof.Tests

open Sys2Proof Sys2Proof.Machine

/-- The results a step or a command leaves, none where it stops. -/
def resultsIn (o : Host.Outcome State Fault Refusal) : Option Results :=
  match o with
  | .next t => some t.results
  | .fault _ => none
  | .refused _ => none

/-- The refusal mark after a step, none where it stops. -/
def markIn (o : Host.Outcome State Fault Refusal) : Option Bool :=
  match o with
  | .next t => some t.refusalMark
  | .fault _ => none
  | .refused _ => none

/-- A state that has seen other commands: no register is at its reset value. -/
def used : State where
  crc := 0x29B1
  txOnes := 3
  txStream := [true, false]
  rxState := .failed
  rxSr := 0x3F
  rxOnes := 7
  rxDbits := [true]
  rxHist := 0b1010101
  cur := 9
  status := 0x00
  value := 0x0000
  out := [0x7E, 0xFB, 0x80, 0x7D, 0xC0, 0x7E]
  refusalMark := false
  pending := []
  maxInputOctets := some 6

/-! ## Well-formedness: each check refuses an ill-formed term and takes one at its boundary -/

theorem test_wf_crcCalc_too_long : (Instr.crcCalc (.octets [1, 2, 3])).wellFormed (some 2) = false := by decide
theorem test_wf_frame_too_long : (Instr.frame (.octets [1, 2, 3])).wellFormed (some 2) = false := by decide
theorem test_wf_deframe_too_long : (Instr.deframe (.octets [1, 2, 3])).wellFormed (some 2) = false := by decide
theorem test_wf_at_the_limit : (Instr.frame (.octets [1, 2])).wellFormed (some 2) = true := by decide
theorem test_wf_unbounded : (Instr.deframe (.octets [1, 2, 3])).wellFormed none = true := by decide
theorem test_resolved_out_crcCalc : (Instr.crcCalc .out).resolved = false := by decide
theorem test_resolved_out_frame : (Instr.frame .out).resolved = false := by decide
theorem test_resolved_out_deframe : (Instr.deframe .out).resolved = false := by decide

/-! ## Decoding: the opcode octets of 30_encoding.md R60, bit by bit, and the listings of 95 section 6 -/

theorem test_decode_table_read : decode ⟨0b00000001, .octets [0xFF]⟩ = .instr (.crcTableRead 0xFF) := by decide
theorem test_decode_crc_calc : decode ⟨0b00000010, .octets [0x31]⟩ = .instr (.crcCalc (.octets [0x31])) := by decide
theorem test_decode_frame : decode ⟨0b00000011, .octets []⟩ = .instr (.frame (.octets [])) := by decide
theorem test_decode_deframe : decode ⟨0b00000100, .out⟩ = .instr (.deframe .out) := by decide
theorem test_decode_reserved_00 : decode ⟨0x00, .octets []⟩ = .rejected (.reservedOpcode 0x00) := by decide
theorem test_decode_reserved_05 : decode ⟨0x05, .out⟩ = .rejected (.reservedOpcode 0x05) := by decide
theorem test_decode_table_read_two_octets :
    decode ⟨0x01, .octets [0x00, 0x01]⟩ = .rejected (.operandForm 0x01) := by decide
/-- P1, line 1: `01 | 01`. -/
theorem test_listing_p1 : decodeListing [0x01, 0x01] = some (.instr (.crcTableRead 0x01)) := by decide
/-- P2, line 1: `03 | FF`. -/
theorem test_encode_listing_p2 : encodeListing (.frame (.octets [0xFF])) = some [0x03, 0xFF] := by decide
theorem test_every_opcode_decodes_or_is_reserved : ∀ op : Octet,
    decide (decode ⟨op, .octets [0]⟩ = .rejected (.reservedOpcode op)) = decide (op = 0 ∨ 5 ≤ op.toNat) := by
  decide
/-- P2, line 1, and P1, line 1, as text (R75). -/
theorem test_assemble_frame :
    parseCommand ['F', 'R', 'A', 'M', 'E', ' ', '[', 'F', 'F', ']', ' ', ';', ' ', 'x'] =
      some (.frame (.octets [0xFF])) := by decide
theorem test_assemble_lines :
    assemble (nameTableRead ++ [' ', '0', 'x', '7', 'E', '\n', ';', '\n'] ++ nameCrcCalc ++ [' ', '"', 'A', '"']) =
      some [⟨0x01, .octets [0x7E]⟩, ⟨0x02, .octets [0x41]⟩] := by decide

/-- The model's reading of blanks (log entry 15): none is needed before a bracket, one is needed before OUT. -/
theorem test_assemble_blanks :
    parseCommand ['F', 'R', 'A', 'M', 'E', '[', 'F', 'F', ']'] = some (.frame (.octets [0xFF])) ∧
      parseCommand ['F', 'R', 'A', 'M', 'E', 'O', 'U', 'T'] = none := by decide

/-! ## Commands: vectors of 95_test_vectors.md -/

/-- VT5. -/
theorem test_table_read_vt5 : resultsIn (exec (.crcTableRead 0x7E) used) = some ⟨0x00, 0x9F59, []⟩ := by decide
/-- VT7. -/
theorem test_table_read_vt7 : resultsIn (exec (.crcTableRead 0xFF) used) = some ⟨0x00, 0x1EF0, []⟩ := by decide
/-- VC7: the check string; the register held another value before. -/
theorem test_crc_calc_vc7 :
    resultsIn (exec (.crcCalc (.octets [0x31, 0x32, 0x33, 0x34, 0x35, 0x36, 0x37, 0x38, 0x39])) State.reset) =
      some ⟨0x00, 0xD64E, []⟩ := by decide +kernel
/-- VC12. -/
theorem test_crc_calc_vc12 : resultsIn (exec (.crcCalc (.octets [0xFF, 0xFF])) used) = some ⟨0x00, 0xFFFF, []⟩ := by
  decide
/-- VF4: runs of 1s across octets and into the checksum. -/
theorem test_frame_vf4 :
    resultsIn (exec (.frame (.octets [0xFF, 0xFF])) used) =
      some ⟨0x00, 0x0000, [0x7E, 0xFB, 0xEF, 0xBE, 0xFB, 0xEC, 0x7E]⟩ := by decide +kernel
/-- VF10: the body ends in five 1s. -/
theorem test_frame_vf10 :
    resultsIn (exec (.frame (.octets [0x88])) used) =
      some ⟨0x00, 0x0000, [0x7E, 0x11, 0x1C, 0x1F, 0x00, 0x7E]⟩ := by decide
/-- VD14, by `OUT`: stuffed bits and six pad bits. -/
theorem test_deframe_vd14 : resultsIn (exec (.deframe .out) used) = some ⟨0x00, 0x0000, [0xFF]⟩ := by decide +kernel
/-- VD17: with `RX_SR_INIT = 0xFF` seven bits are no flag. -/
theorem test_deframe_vd17 :
    resultsIn (exec (.deframe (.octets [0xFC, 0x00, 0x00, 0x7E])) used) = some ⟨0x04, 0x0000, []⟩ := by decide
/-- The trace of VD14 at step 29: five 1s counted, 21 bits kept, a full history. -/
theorem test_bit_walk_vd14_at_29 :
    ((State.reset.rxWalk ((bitsOf used.out).take 30)).rxOnes, (State.reset.rxWalk ((bitsOf used.out).take 30)).rxSr,
      (State.reset.rxWalk ((bitsOf used.out).take 30)).rxDbits.length,
      (State.reset.rxWalk ((bitsOf used.out).take 30)).rxHist) = (5, 0x1F, 21, 0b1111111) := by decide
/-- The trace of VD14 at step 13: the stuffed 0 is dropped and recorded as such. -/
theorem test_bit_walk_vd14_at_13 :
    ((State.reset.rxWalk ((bitsOf used.out).take 14)).rxOnes, (State.reset.rxWalk ((bitsOf used.out).take 14)).rxSr,
      (State.reset.rxWalk ((bitsOf used.out).take 14)).rxDbits.length,
      (State.reset.rxWalk ((bitsOf used.out).take 14)).rxHist) = (0, 0xBE, 5, 0b0111110) := by decide
/-- The trace of VF3: after the fifth 1 the counter is 0 and six bits are out. -/
theorem test_stuffer_vf3 :
    ((State.reset.txRun (List.replicate 5 true)).txOnes, (State.reset.txRun (List.replicate 5 true)).txStream) =
      (0, [true, true, true, true, true, false]) := by decide
/-- The trace of VC7, first row. -/
theorem test_crc_step_vc7 : (State.reset.crcInit.crcStep 0x31).crc = 0xC782 := by decide

/-! ## Steps -/

/-- P5, line 2: the reserved opcode 0x07 sets the mark and leaves the results. -/
theorem test_step_reserved_p5 :
    resultsIn (step (used.issueNext ⟨0x07, .octets [0x00]⟩)) = some used.results ∧
      markIn (step (used.issueNext ⟨0x07, .octets [0x00]⟩)) = some true := by decide
/-- R65: seven octets under a limit of six. -/
theorem test_step_oversize :
    resultsIn (step (used.issueNext ⟨0x03, .octets [1, 2, 3, 4, 5, 6, 7]⟩)) = some used.results ∧
      markIn (step (used.issueNext ⟨0x03, .octets [1, 2, 3, 4, 5, 6, 7]⟩)) = some true := by decide
/-- A table word runs as the first command after reset. -/
theorem test_step_first_command :
    resultsIn (step (State.reset.withFetchWord 8 0x03)) = some ⟨0x00, 0x0000, [0x7E, 0x00, 0x1E, 0x0F, 0x7E]⟩ := by
  decide
/-- R190: reset brings the results back to R38's values and leaves the mark. -/
theorem test_step_reset :
    resultsIn (step { used with pending := [.reset], refusalMark := true }) = some ⟨0x00, 0x0000, []⟩ ∧
      markIn (step { used with pending := [.reset], refusalMark := true }) = some true := by decide

/-! ## Witnesses: the hypotheses of the statements can be met -/

theorem witness_ResetSetsEveryRegister : { used with pending := [.reset] }.pending = .reset :: [] := rfl

theorem witness_StepKeepsResultsConsistent :
    State.ResultsConsistent { used with status := 0x05, out := [] } ∧
      ∃ t, step ({ used with status := 0x05, out := [] }.issueNext ⟨0x01, .octets [0x01]⟩) = .next t :=
  ⟨by decide, _, rfl⟩

theorem witness_StepKeepsMarkAndParameter :
    ∃ t, step ({ used with refusalMark := true }.issueNext ⟨0x01, .octets [0x01]⟩) = .next t ∧
      { used with refusalMark := true }.refusalMark = true :=
  ⟨_, rfl, rfl⟩

theorem witness_StepRunsTheDecodedCommand :
    (used.issueNext ⟨0x04, .out⟩).pending = .issue ⟨0x04, .out⟩ :: used.pending ∧
      decode ⟨0x04, .out⟩ = .instr (.deframe .out) ∧ decodeTableWord 8 0x04 = some (.deframe (.octets [0x00])) := by
  decide

theorem witness_IdleBlockHoldsItsRegisters : used.pending = [] := rfl

theorem witness_ReservedOpcodesAreRefused :
    (used.issueNext ⟨0x00, .out⟩).pending = .issue ⟨0x00, .out⟩ :: [] ∧
      (used.issueNext ⟨0x05, .octets []⟩).pending = .issue ⟨0x05, .octets []⟩ :: [] ∧ 0x05 ≤ (0x05 : Octet).toNat ∧
      0x05 ≤ (0xFF : Octet).toNat := by decide

theorem witness_TableReadOperandFormStops :
    (used.issueNext ⟨0x01, .octets []⟩).pending = .issue ⟨0x01, .octets []⟩ :: [] ∧
      (¬ ∃ idx : Octet, Operand.octets [] = .octets [idx]) ∧ (¬ ∃ idx : Octet, Operand.out = .octets [idx]) :=
  ⟨rfl, fun ⟨_, h⟩ => (by cases h), fun ⟨_, h⟩ => (by cases h)⟩

theorem witness_OversizeOperandsAreRefused :
    used.maxInputOctets = some 6 ∧ 6 < (operandValue (.octets [1, 2, 3, 4, 5, 6, 7]) used).length ∧
      State.reset.maxInputOctets = none := by decide

/-- An operand as long as the limit, and one of each other kind. -/
theorem witness_EveryCommandCompletes :
    used.maxInputOctets = some 6 ∧ ([1, 2, 3, 4, 5, 6] : List Octet).length = 6 ∧
      admitsInstr (.crcCalc (.octets [1, 2, 3, 4, 5, 6])) used = true ∧
      admitsInstr (.frame (.octets [1, 2, 3, 4, 5, 6])) used = true ∧ admitsInstr (.deframe .out) used = true ∧
      admitsInstr (.crcTableRead 0xFF) used = true ∧ admitsInstr (.frame .out) State.reset = true := by decide

/-- The empty text, and one that holds a ';' (R75's "123" among its characters). -/
theorem witness_QuotedOperandsAssembleToTheirCodes :
    [].all isTextChar = true ∧ ['1', '2', '3', ';', ' ', '~'].all isTextChar = true := by decide

/-- A command with blanks and a comment, an empty line, a comment alone, and a command without a comment. -/
theorem witness_CommentsAndBlankLinesGiveNoCommand :
    [SourceLine.mk [' '] (some (.frame .out)) ['\t'] (some ['"', ';', '[']), ⟨[], none, [], none⟩,
      ⟨[], none, [' '], some []⟩, ⟨[], some (.crcTableRead 0xFF), [], none⟩].all properLine = true := by decide

theorem witness_ResultsDependOnTheOperandAlone :
    (Instr.frame (.octets [1, 2, 3, 4, 5, 6])).resolved = true ∧
      (Instr.frame (.octets [1, 2, 3, 4, 5, 6])).wellFormed used.maxInputOctets = true ∧
      (Instr.frame (.octets [1, 2, 3, 4, 5, 6])).wellFormed State.reset.maxInputOctets = true := by decide

theorem witness_CommandsWriteOnlyTheirRegisters :
    (∃ t, exec (.crcTableRead 0x00) used = .next t) ∧ (∃ t, exec (.crcCalc .out) used = .next t) ∧
      (∃ t, exec (.frame .out) used = .next t) ∧ (∃ t, exec (.deframe .out) used = .next t) ∧
      (Instr.crcTableRead 0x00).resolved = true ∧
      (Instr.crcTableRead 0x00).wellFormed used.maxInputOctets = true :=
  ⟨⟨_, rfl⟩, ⟨_, rfl⟩, ⟨_, rfl⟩, ⟨_, rfl⟩, rfl, rfl⟩

/-- `OUT` and a written operand at the limit are admitted: the hypothesis of the statements on `CRC_CALC`, `FRAME` and
`DEFRAME` (CrcCalcYieldsTheChecksum, FrameWritesTheWireFrame, PackingPadsWithZeros, WireLengthIsBounded,
NoSixOnesBetweenTheFlags, FlagPatternOnlyAtTheEnds). -/
theorem witness_admitted_operands :
    admits .out used = true ∧ admits (.octets [1, 2, 3, 4, 5, 6]) used = true ∧ admits (.octets []) used = true := by
  decide

theorem witness_FrameCornerCases : admits (.octets [0xFF]) used = true := by decide

theorem witness_BitOrdersAndReversal : flagBits.length = 8 ∧ (0 : Nat) < 8 ∧ (7 : Nat) < 8 := by decide

/-- One state for each branch: a fifth 1, and an earlier one, both from a counter of at most 4. -/
theorem witness_StufferStepsFollowTheirRules :
    { used with txOnes := 4 }.txOnes.toNat + 1 = 5 ∧ { used with txOnes := 4 }.txOnes.toNat ≤ 4 ∧
      used.txOnes.toNat + 1 ≠ 5 ∧ used.txOnes.toNat ≤ 4 := by decide

/-- Searching, with and without the bit that completes a flag. -/
theorem witness_SearchingStepFindsTheFlag :
    { used with rxState := .searching }.rxState = .searching ∧
      ((used.rxSr <<< 1) ||| BitVec.setWidth 8 (BitVec.ofBool false)) = 0x7E ∧
      ((used.rxSr <<< 1) ||| BitVec.setWidth 8 (BitVec.ofBool true)) ≠ 0x7E := by decide

/-- In a frame, one case for each clause: a flag; a seventh 1; a sixth 1; a stuffed 0; a data 0 after four 1s. -/
theorem witness_InFrameStepFollowsItsRules :
    { used with rxState := .inFrame }.rxState = .inFrame ∧
      ((0x3F : Octet) <<< 1) ||| BitVec.setWidth 8 (BitVec.ofBool false) = 0x7E ∧
      ((0x3F : Octet) <<< 1) ||| BitVec.setWidth 8 (BitVec.ofBool true) ≠ 0x7E ∧
      ((0x1F : Octet) <<< 1) ||| BitVec.setWidth 8 (BitVec.ofBool false) ≠ 0x7E ∧
      (6 : BitVec 3).toNat + 1 > 6 ∧ (5 : BitVec 3).toNat + 1 ≤ 6 ∧ (5 : BitVec 3).toNat = 5 ∧
      (4 : BitVec 3).toNat ≠ 5 := by decide

theorem witness_FlagIsSeenAtItsEighthBit :
    (used.rxWalk []).rxState = .searching ∧ (used.rxWalk flagBits).rxState = .inFrame := by decide

/-- A walk in a frame with six 1s counted, and the shortest one that ends in `DONE`: 15 bits (R139 (e)). -/
theorem witness_BitStepFacts :
    (used.rxWalk (flagBits ++ List.replicate 6 true)).rxState = .inFrame ∧
      (used.rxWalk (flagBits ++ List.replicate 6 true)).rxOnes.toNat = 6 ∧
      (used.rxWalk (flagBits ++ List.replicate 6 true ++ [false])).rxState = .done ∧
      (flagBits ++ List.replicate 6 true ++ [false]).length = 15 := by decide

theorem witness_InputAfterTheEndIsIgnored :
    (used.rxWalk (bitsOf [0x7E, 0x7E])).rxState = .done ∧ (used.rxWalk (bitsOf [0x7E, 0xFE])).rxState = .failed ∧
      admits (.octets [0x7E, 0x7E]) used = true ∧ admits (.octets ([0x7E, 0x7E] ++ [0x00])) used = true := by
  decide

/-- One admitted capture for each terminal event of R173: VD7, VD1, VD4, VD11, and VD12 and VD8 whose octets are a
checksum alone, wrong and right. -/
theorem witness_DeframeResultByTerminalEvent :
    (used.rxWalk ([0x7E, 0xFE].flatMap bitsMsb)).rxState = .failed ∧
      (used.rxWalk ([].flatMap bitsMsb)).rxState = .searching ∧
      (used.rxWalk ([0x7E].flatMap bitsMsb)).rxState = .inFrame ∧
      (used.rxWalk ([0x7E, 0x00, 0x7E].flatMap bitsMsb)).rxState = .done ∧
      (group8 (used.rxWalk ([0x7E, 0x00, 0x7E].flatMap bitsMsb)).rxRetract.rxDbits).length < 2 ∧
      group8 (used.rxWalk ([0x7E, 0x00, 0x01, 0x7E].flatMap bitsMsb)).rxRetract.rxDbits = [] ++ [0x00, 0x01] ∧
      (crc16 []).toNat ≠ 256 * 0x00 + 0x01 ∧
      group8 (used.rxWalk ([0x7E, 0x00, 0x00, 0x7E].flatMap bitsMsb)).rxRetract.rxDbits = [] ++ [0x00, 0x00] ∧
      (crc16 []).toNat = 256 * 0x00 + 0x00 ∧ admits (.octets [0x7E, 0x00, 0x01, 0x7E]) used = true := by
  decide

theorem witness_DeframeCornerCases :
    admits (.octets [0x7E]) used = true ∧ admits (.octets [0x0F, 0xC0]) used = true := by decide

theorem witness_SevenOnesInAFrameFail :
    admits (.octets [0x7E, 0xFE]) used = true ∧
      bitsOf [0x7E, 0xFE] = flagBits ++ List.replicate 7 true ++ [false] ∧
      (used.rxWalk flagBits).rxState = .inFrame := by decide

theorem witness_AdjacentFlagsMakeAnEmptyFrame :
    admits (.octets (0x7E :: 0x7E :: [0x00, 0x00, 0x7E])) used = true ∧
      admits (.octets (0x7E :: 0xFC :: [])) used = true := by decide

theorem witness_TwoFlagsDelimitAFrame : admits (.octets (0x7E :: [0xFB, 0x80, 0x7D, 0xC0] ++ [0x7E])) used = true := by
  decide

/-- A frame that fits the limit again: `FRAME []` and `FRAME [FF]` under a limit of six. -/
theorem witness_DeframeInvertsFrame :
    admits (.octets [0xFF]) used = true ∧ admits (.octets (wireOf [0xFF])) used = true ∧
      admits .out (frameRun [0xFF] used) = true := by decide

/-- VD15: `FRAME [FF]` behind three 0s, with five 0s after it. -/
theorem witness_FrameIsFoundAtAnyBitOffset :
    (3 : Nat) < 8 ∧ (5 : Nat) < 8 ∧
      bitsOf [0x0F, 0xDF, 0x70, 0x0F, 0xB8, 0x0F, 0xC0] =
        List.replicate 3 false ++ bitsOf (wireOf [0xFF]) ++ List.replicate 5 false ∧
      admits (.octets [0x0F, 0xDF, 0x70, 0x0F, 0xB8, 0x0F, 0xC0]) State.reset = true := by decide

/-- VD20: `FRAME [FF]` with its first pad bit, bit 34, inverted, and with its last one, bit 39. -/
theorem witness_InvertedPadBitIsIgnored :
    8 + (stuff (bitsOf (wireBody [0xFF]))).length ≤ 34 ∧ 34 + 8 < (bitsOf (wireOf [0xFF])).length ∧
      39 + 8 < (bitsOf (wireOf [0xFF])).length ∧
      bitsOf [0x7E, 0xFB, 0x80, 0x7D, 0xE0, 0x7E] = (bitsOf (wireOf [0xFF])).set 34 true ∧
      bitsOf [0x7E, 0xFB, 0x80, 0x7D, 0xC1, 0x7E] = (bitsOf (wireOf [0xFF])).set 39 true ∧
      admits (.octets [0x7E, 0xFB, 0x80, 0x7D, 0xE0, 0x7E]) used = true := by decide

end Sys2Proof.Tests
end

section
/-! PROOFS. The CRC unit and its two commands (spec/40_crc.md): the arithmetic of `crc_step` on natural numbers, what
`CRC_CALC` does whole, and the statements O21, O18 and O19. -/

namespace Sys2Proof.Machine

/-! ## The instructions' meanings -/

theorem exec_crcTableRead_eq_next_complete (idx : Octet) (s : State) :
    exec (.crcTableRead idx) s = .next (s.complete .ok (romRead idx) []) := rfl

theorem exec_crcCalc_of_admits {src : Operand} {s : State} (h : admits src s = true) :
    exec (.crcCalc src) s = .next (crcCalcRun (operandValue src s) s) :=
  withOperand_admitted h

/-- `CRC_CALC` writes the CRC register, the cursor and the result registers, and no other field. -/
theorem crcCalcRun_eq_complete (xs : List Octet) (s : State) :
    crcCalcRun xs s =
      { s with crc := xs.foldl crcNext Config.crcSeed, cur := xs.length }.complete .ok (crc16 xs) [] := by
  rw [crcCalcRun, crcCalcLoop_eq]
  rfl

/-! ## The CRC step on natural numbers (R11, R83, R84) -/

/-- The table index of R83: the width of an octet does what the mask `& 0xFF` does. -/
theorem crcIndex_eq_ofNat (crc : Word) (b : Octet) :
    b ^^^ (crc >>> 8).setWidth 8 = BitVec.ofNat 8 ((b.toNat ^^^ (crc.toNat >>> 8)) &&& 0xFF) := by
  apply BitVec.eq_of_toNat_eq
  have mask : (b.toNat ^^^ (crc.toNat >>> 8)) &&& 0xFF = (b.toNat ^^^ (crc.toNat >>> 8)) % 2 ^ 8 :=
    Nat.and_two_pow_sub_one_eq_mod _ 8
  rw [BitVec.toNat_ofNat, mask, Nat.mod_mod, Nat.xor_mod_two_pow, Nat.mod_eq_of_lt b.isLt, BitVec.toNat_xor,
    BitVec.toNat_setWidth, BitVec.toNat_ushiftRight]

/-- The shift of R83: the width of a word does what the mask `& 0xFFFF` does. -/
theorem shiftLeft_eight_toNat (crc : Word) : (crc <<< 8).toNat = (crc.toNat <<< 8) &&& 0xFFFF := by
  rw [BitVec.toNat_shiftLeft]
  exact (Nat.and_two_pow_sub_one_eq_mod _ 16).symm

theorem crcNext_toNat (crc : Word) (b : Octet) :
    (crcNext crc b).toNat =
      (romRead (BitVec.ofNat 8 ((b.toNat ^^^ (crc.toNat >>> 8)) &&& 0xFF))).toNat ^^^
        ((crc.toNat <<< 8) &&& 0xFFFF) := by
  rw [crcNext, BitVec.toNat_xor, crcIndex_eq_ofNat, shiftLeft_eight_toNat]

theorem crcResult_toNat (crc : Word) : (crcResult crc).toNat = (crc.toNat ^^^ 0xFFFF) &&& 0xFFFF := by
  have bound : crc.toNat ^^^ 0xFFFF < 2 ^ 16 := Nat.xor_lt_two_pow crc.isLt (by decide)
  calc (crcResult crc).toNat
    _ = crc.toNat ^^^ 0xFFFF := BitVec.toNat_xor crc Config.crcFinalXor
    _ = (crc.toNat ^^^ 0xFFFF) % 2 ^ 16 := (Nat.mod_eq_of_lt bound).symm
    _ = (crc.toNat ^^^ 0xFFFF) &&& 0xFFFF := (Nat.and_two_pow_sub_one_eq_mod _ 16).symm

/-! ## Fixed values of the checksum -/

/-- The corner cases of R87. -/
theorem crc16_corner_cases : crc16 [] = 0x0000 ∧ crc16 [0x00] = 0x1E0F ∧ crc16 [0xFF] = 0x00FF := by
  decide

/-- The example of R87, the ASCII codes of "123456789". -/
theorem crc16_check_value : crc16 [0x31, 0x32, 0x33, 0x34, 0x35, 0x36, 0x37, 0x38, 0x39] = 0xD64E := by
  decide +kernel

end Sys2Proof.Machine

/-! ## The statements -/

open Sys2Proof Sys2Proof.Machine

/-- Settles O21: an admitted operand runs the loop, whose effect `crcCalcRun_eq_complete` gives field by field. -/
theorem crcCalcYieldsTheChecksum : Obligations.CrcCalcYieldsTheChecksum := by
  obtain ⟨ofEmpty, ofZero, ofOnes⟩ := crc16_corner_cases
  refine ⟨fun src s admitted => ⟨_, exec_crcCalc_of_admits admitted, ?_⟩, fun _ => rfl, ofEmpty, ofZero, ofOnes,
    crc16_check_value⟩
  rw [crcCalcRun_eq_complete]
  exact ⟨rfl, ⟨rfl, rfl⟩, ⟨rfl, rfl, rfl, rfl, rfl⟩, ⟨rfl, rfl, rfl⟩⟩

/-- Settles O18: the command only completes, so it writes the three result registers. -/
theorem crcTableReadYieldsTheEntry : Obligations.CrcTableReadYieldsTheEntry := by
  refine ⟨exec_crcTableRead_eq_next_complete, fun _ => rfl, ?_⟩
  decide

/-- Settles O19, from the arithmetic of one `crc_step` and of `crc_final`. -/
theorem crcUnitStepsFollowTheirRules : Obligations.CrcUnitStepsFollowTheirRules :=
  fun s b => ⟨rfl, rfl, crcNext_toNat s.crc b, crcResult_toNat s.crc⟩
end

section
/-! PROOFS. The framer (spec/41_framer.md): the steps of the stuffer and the stream a run of it emits, packing and its
inverse, what `FRAME` does whole, and the statements O28, O30 and O27. -/

namespace Sys2Proof.Machine

/-! ## The stuffer (R105 to R107) -/

theorem txStep_true_of_fifth {s : State} (h : s.txOnes.toNat + 1 = 5) :
    s.txStep true = { s with txStream := s.txStream ++ [true, false], txOnes := 0 } :=
  if_pos h

theorem txStep_true_of_not_fifth {s : State} (h : s.txOnes.toNat + 1 ≠ 5) :
    s.txStep true = { s with txStream := s.txStream ++ [true], txOnes := s.txOnes + 1 } :=
  if_neg h

theorem txStep_false (s : State) :
    s.txStep false = { s with txStream := s.txStream ++ [false], txOnes := 0 } := rfl

/-- In the range of R23 the increment of the three-bit counter does not wrap (log entry 8). -/
theorem toNat_add_one_of_le_four {n : BitVec 3} (h : n.toNat ≤ 4) : (n + 1).toNat = n.toNat + 1 := by
  bv_omega

/-- A step keeps the counter in the range of R23. -/
theorem txStep_txOnes_le_four {s : State} (h : s.txOnes.toNat ≤ 4) (t : Bit) : (s.txStep t).txOnes.toNat ≤ 4 := by
  cases t with
  | false => simp [txStep_false]
  | true =>
    by_cases fifth : s.txOnes.toNat + 1 = 5
    · simp [txStep_true_of_fifth fifth]
    · simp only [txStep_true_of_not_fifth fifth, toNat_add_one_of_le_four h]
      omega

/-- One step emits what `stuffFrom` puts in front, and counts as it does. -/
theorem txStep_stuffFrom {s : State} (h : s.txOnes.toNat ≤ 4) (t : Bit) (bits : List Bit) :
    (s.txStep t).txStream ++ stuffFrom (s.txStep t).txOnes.toNat bits =
      s.txStream ++ stuffFrom s.txOnes.toNat (t :: bits) := by
  cases t with
  | false => simp [txStep_false, stuffFrom]
  | true =>
    by_cases fifth : s.txOnes.toNat + 1 = 5
    · simp [txStep_true_of_fifth fifth, stuffFrom, fifth]
    · simp only [txStep_true_of_not_fifth fifth, stuffFrom, if_neg fifth, toNat_add_one_of_le_four h,
        List.append_assoc, List.singleton_append]

/-- The stuffer's registers compute the stuffing of the bits. -/
theorem txStep_foldl_txStream (bits : List Bit) {s : State} (h : s.txOnes.toNat ≤ 4) :
    (bits.foldl State.txStep s).txStream = s.txStream ++ stuffFrom s.txOnes.toNat bits := by
  induction bits generalizing s with
  | nil => simp [stuffFrom]
  | cons t bits ih => rw [List.foldl_cons, ih (txStep_txOnes_le_four h t), txStep_stuffFrom h]

theorem txRun_txStream (bits : List Bit) (s : State) : (s.txRun bits).txStream = stuff bits :=
  txStep_foldl_txStream bits (s := s.txStart) (by simp)

/-! ## Bits, groups and packing (R13, R108) -/

theorem bitsMsb_octet (b7 b6 b5 b4 b3 b2 b1 b0 : Bit) :
    bitsMsb (octet [b7, b6, b5, b4, b3, b2, b1, b0]) = [b7, b6, b5, b4, b3, b2, b1, b0] := by
  revert b7 b6 b5 b4 b3 b2 b1 b0
  decide

/-- Whole groups lose no bit. -/
theorem bitsOf_group8 (bs : List Bit) (whole : bs.length % 8 = 0) : bitsOf (group8 bs) = bs := by
  induction bs using group8.induct with
  | case1 b7 b6 b5 b4 b3 b2 b1 b0 rest ih =>
    have restWhole : rest.length % 8 = 0 := by
      simp only [List.length_cons] at whole
      omega
    rw [group8_eight, bitsOf_cons, bitsMsb_octet, ih restWhole]
    rfl
  | case2 bs short =>
    have noGroup : group8 bs = [] := group8.eq_2 bs short
    have belowEight : bs.length / 8 = 0 := by rw [← group8_length, noGroup, List.length_nil]
    have noBit : bs.length = 0 := by omega
    rw [noGroup, List.eq_nil_of_length_eq_zero noBit, bitsOf_nil]

theorem length_add_padCount_mod (n : Nat) : (n + padCount n) % 8 = 0 := by
  unfold padCount
  omega

theorem bitsOf_pack (bits : List Bit) : bitsOf (pack bits) = bits ++ List.replicate (padCount bits.length) false :=
  bitsOf_group8 _ (by rw [List.length_append, List.length_replicate, length_add_padCount_mod])

theorem pack_length (bits : List Bit) : (pack bits).length = (bits.length + 7) / 8 := by
  rw [pack, group8_length, List.length_append, List.length_replicate, padCount]
  omega

/-! ## The command (R101 to R110) -/

theorem exec_frame_of_admits {src : Operand} {s : State} (h : admits src s = true) :
    exec (.frame src) s = .next (frameRun (operandValue src s) s) :=
  withOperand_admitted h

theorem wireBody_length (xs : List Octet) : (wireBody xs).length = xs.length + 2 := by
  simp [wireBody]

/-- With the checksum taken, `FRAME` runs the stuffer over the body and completes with its packed stuffing. -/
theorem frameEmit_eq_complete (reversed : List Octet) (s : State) :
    frameEmit reversed s =
      (s.txRun (bitsOf (frameBody reversed s.crcFinal))).complete .ok 0x0000
        (delimit (pack (stuff (bitsOf (frameBody reversed s.crcFinal))))) := by
  rw [frameEmit, txRun_txStream]

/-- What `FRAME` does whole: the CRC unit and the cursor run over the operand, the stuffer over the body, and the
command completes with the wire frame of R68. -/
theorem frameRun_eq_complete (xs : List Octet) (s : State) :
    frameRun xs s =
      ({ s with crc := (xs.map bitrev8).foldl crcNext Config.crcSeed, cur := xs.length }.txRun
        (bitsOf (wireBody xs))).complete .ok 0x0000 (wireOf xs) := by
  rw [frameRun, crcRun_eq, reverseLoop_eq, frameEmit_eq_complete]
  rfl

end Sys2Proof.Machine

/-! ## The statements -/

open Sys2Proof Sys2Proof.Machine

/-- Settles O28: `frameRun_eq_complete` gives the results, and `txRun_frame` what the stuffer's run leaves alone. -/
theorem frameWritesTheWireFrame : Obligations.FrameWritesTheWireFrame := by
  intro src s admitted
  refine ⟨_, _, wireBody (operandValue src s), _, bitsOf (wireBody (operandValue src s)), rfl, List.length_map _, rfl,
    rfl, wireBody_length _, rfl, ?_, exec_frame_of_admits admitted, ?_⟩
  · rw [bitsOf_length, wireBody_length]
  · rw [frameRun_eq_complete]
    refine ⟨rfl, ?_⟩
    rw [txRun_frame]
    exact ⟨⟨rfl, rfl, rfl, rfl, rfl⟩, rfl, rfl, rfl⟩

/-- Settles O30: the padded stream is whole groups, which `group8` only regroups; and `FRAME` emits the packed
stuffed body. -/
theorem packingPadsWithZeros : Obligations.PackingPadsWithZeros := by
  refine ⟨fun bits => ⟨bitsOf_pack bits, pack_length bits⟩, fun src s admitted =>
    ⟨_, exec_frame_of_admits admitted, ?_⟩⟩
  rw [frameRun_eq_complete]
  rfl

/-- Settles O27, branch by branch of the stuffer's step. -/
theorem stufferStepsFollowTheirRules : Obligations.StufferStepsFollowTheirRules := by
  intro s
  refine ⟨rfl, fun fifth => ?_, txStep_true_of_not_fifth, txStep_false s, txStep_txOnes_le_four⟩
  rw [txStep_true_of_fifth fifth, List.append_assoc]
  rfl
end

section
/-! PROOFS. The deframer (spec/42_deframer.md): the branches of the `IN_FRAME` bit step, the walk behind a terminal
state, what the end of `DEFRAME` answers in each state of the walk, and the statements O41, O42 and O38. -/

namespace Sys2Proof.Machine

/-! ## The bit step in a frame (R134 to R138) -/

theorem rxStep_inFrame {s : State} (h : s.rxState = .inFrame) (t : Bit) :
    s.rxStep t = (s.rxShift t).rxFrameStep t := by
  rw [State.rxStep, h]

theorem rxFrameStep_of_flag {s : State} (flag : s.rxSr = 0x7E) (t : Bit) :
    s.rxFrameStep t = { s with rxState := .done } :=
  if_pos flag

theorem rxFrameStep_true_of_not_flag {s : State} (noFlag : s.rxSr ≠ 0x7E) : s.rxFrameStep true = s.rxOneStep :=
  if_neg noFlag

theorem rxFrameStep_false_of_not_flag {s : State} (noFlag : s.rxSr ≠ 0x7E) : s.rxFrameStep false = s.rxZeroStep :=
  if_neg noFlag

/-- A step that appends nothing shifts a 0 into the history (R138). -/
theorem rxRecord_false (s : State) : s.rxRecord false = { s with rxHist := s.rxHist <<< 1 } := by
  simp [State.rxRecord]

/-- R135: a 1 that exceeds six fails the frame; nothing is appended or recorded. -/
theorem rxOneStep_of_exceeds {s : State} (exceeds : s.rxOnes.toNat + 1 > 6) :
    s.rxOneStep = { s with rxOnes := s.rxOnes + 1, rxState := .failed } :=
  if_pos exceeds

/-- R135: any other 1 is appended and counted. -/
theorem rxOneStep_of_le_six {s : State} (within : s.rxOnes.toNat + 1 ≤ 6) :
    s.rxOneStep =
      { s with
        rxOnes := s.rxOnes + 1, rxDbits := s.rxDbits ++ [true], rxHist := (s.rxHist <<< 1) ||| 1 } :=
  if_neg (Nat.not_lt.mpr within)

/-- R136: a 0 after exactly five 1s is a stuffed bit and is dropped. -/
theorem rxZeroStep_of_stuffed {s : State} (stuffed : s.rxOnes.toNat = 5) :
    s.rxZeroStep = { s with rxOnes := 0, rxHist := s.rxHist <<< 1 } :=
  (if_pos stuffed).trans (rxRecord_false _)

/-- R137: any other 0 is data and is appended. -/
theorem rxZeroStep_of_data {s : State} (data : s.rxOnes.toNat ≠ 5) :
    s.rxZeroStep =
      { s with rxOnes := 0, rxDbits := s.rxDbits ++ [false], rxHist := (s.rxHist <<< 1) ||| 1 } :=
  if_neg data

/-! ## The walk behind a terminal state (R140) -/

/-- A terminal state absorbs every bit stream. -/
theorem rxStep_foldl_of_terminal {s : State} (ended : s.rxState = .done ∨ s.rxState = .failed) (bits : List Bit) :
    bits.foldl State.rxStep s = s :=
  List.foldl_fixed' (fun t => ended.elim (rxStep_done · t) (rxStep_failed · t)) bits

theorem rxWalk_append_of_terminal {s : State} {bits : List Bit}
    (ended : (s.rxWalk bits).rxState = .done ∨ (s.rxWalk bits).rxState = .failed) (more : List Bit) :
    s.rxWalk (bits ++ more) = s.rxWalk bits := by
  rw [rxWalk_append, rxStep_foldl_of_terminal ended]

theorem deframeRun_append_of_terminal {s : State} {xs : List Octet}
    (ended : (s.rxWalk (bitsOf xs)).rxState = .done ∨ (s.rxWalk (bitsOf xs)).rxState = .failed)
    (more : List Octet) : deframeRun (xs ++ more) s = deframeRun xs s := by
  rw [deframeRun, deframeRun, bitsOf_append, rxWalk_append_of_terminal ended]

/-! ## The checksum check (R145 to R147) -/

theorem wordOfOctets_toNat (hi lo : Octet) : (wordOfOctets hi lo).toNat = 256 * hi.toNat + lo.toNat := by
  rw [wordOfOctets, BitVec.toNat_append, ← Nat.shiftLeft_add_eq_or_of_lt lo.isLt, Nat.shiftLeft_eq, Nat.mul_comm]

/-- A checksum equals a big-endian pair of octets exactly when their numbers do. -/
theorem eq_wordOfOctets_iff (v : Word) (hi lo : Octet) :
    v = wordOfOctets hi lo ↔ v.toNat = 256 * hi.toNat + lo.toNat := by
  rw [← wordOfOctets_toNat, BitVec.toNat_inj]

theorem receivedData_append_pair (data : List Octet) (hi lo : Octet) : receivedData (data ++ [hi, lo]) = data := by
  simp [receivedData]

theorem receivedFcs_append_pair (data : List Octet) (hi lo : Octet) :
    receivedFcs (data ++ [hi, lo]) = wordOfOctets hi lo := by
  simp [receivedFcs]

theorem crcRun_crcFinal (xs : List Octet) (s : State) : (s.crcRun xs).crcFinal = crc16 xs := by
  rw [crcRun_eq]
  rfl

theorem rxCheck_of_match {data : List Octet} {hi lo : Octet} (s : State)
    (checks : (crc16 data).toNat = 256 * hi.toNat + lo.toNat) :
    rxCheck (data ++ [hi, lo]) s = (s.crcRun data).complete .ok 0x0000 (data.map bitrev8) := by
  rw [← eq_wordOfOctets_iff, ← crcRun_crcFinal data s] at checks
  rw [rxCheck, receivedData_append_pair, receivedFcs_append_pair, if_pos checks]

theorem rxCheck_of_mismatch {data : List Octet} {hi lo : Octet} (s : State)
    (differs : (crc16 data).toNat ≠ 256 * hi.toNat + lo.toNat) :
    rxCheck (data ++ [hi, lo]) s = (s.crcRun data).raise .crcMismatch := by
  rw [ne_eq, ← eq_wordOfOctets_iff, ← crcRun_crcFinal data s] at differs
  rw [rxCheck, receivedData_append_pair, receivedFcs_append_pair, if_neg differs]

/-! ## The end of the command (R141 to R148, R173) -/

theorem rxConclude_of_searching {s : State} (h : s.rxState = .searching) : rxConclude s = s.raise .frameNotFound := by
  rw [rxConclude, h]

theorem rxConclude_of_inFrame {s : State} (h : s.rxState = .inFrame) : rxConclude s = s.raise .incompleteFrame := by
  rw [rxConclude, h]

theorem rxConclude_of_failed {s : State} (h : s.rxState = .failed) : rxConclude s = s.raise .bitStuffViolation := by
  rw [rxConclude, h]

/-- R144: fewer than two octets hold no checksum. -/
theorem rxConclude_of_done_short {s : State} (h : s.rxState = .done)
    (short : (group8 s.rxRetract.rxDbits).length < 2) : rxConclude s = s.rxRetract.raise .crcMismatch := by
  rw [rxConclude, h]
  exact if_pos short

theorem rxConclude_of_done_pair {s : State} (h : s.rxState = .done) {data : List Octet} {hi lo : Octet}
    (octets : group8 s.rxRetract.rxDbits = data ++ [hi, lo]) :
    rxConclude s = rxCheck (data ++ [hi, lo]) s.rxRetract := by
  have long : ¬ (group8 s.rxRetract.rxDbits).length < 2 := by
    rw [octets]
    simp
  rw [← octets, rxConclude, h]
  exact if_neg long

/-- Completing a command leaves the framer and the model's fields alone; so does raising an error, which completes. -/
theorem complete_frame (code : ResultCode) (v : Word) (o : List Octet) (s : State) :
    SameTxUnit s (s.complete code v o) ∧ SameModelFields s (s.complete code v o) :=
  ⟨⟨rfl, rfl⟩, rfl, rfl, rfl⟩

theorem rxCheck_frame (octets : List Octet) (s : State) :
    SameTxUnit s (rxCheck octets s) ∧ SameModelFields s (rxCheck octets s) := by
  obtain ends | ends := rxCheck_cases octets s <;>
  · rw [ends, crcRun_eq]
    exact complete_frame _ _ _ _

theorem rxConclude_frame (s : State) : SameTxUnit s (rxConclude s) ∧ SameModelFields s (rxConclude s) := by
  obtain ⟨-, ends⟩ | ⟨-, ends⟩ | ⟨-, ends⟩ | ⟨-, -, ends⟩ | ⟨-, -, ends⟩ := rxConclude_cases s
  · exact ends ▸ complete_frame .frameNotFound 0x0000 [] s
  · exact ends ▸ complete_frame .incompleteFrame 0x0000 [] s
  · exact ends ▸ complete_frame .bitStuffViolation 0x0000 [] s
  · exact ends ▸ complete_frame .crcMismatch 0x0000 [] s.rxRetract
  · exact ends ▸ rxCheck_frame _ s.rxRetract

/-- The whole command leaves the framer and the model's fields alone. -/
theorem deframeRun_frame (xs : List Octet) (s : State) :
    SameTxUnit s (deframeRun xs s) ∧ SameModelFields s (deframeRun xs s) := by
  have concluded := rxConclude_frame (s.rxWalk (bitsOf xs))
  rw [deframeRun]
  generalize rxConclude (s.rxWalk (bitsOf xs)) = t at concluded ⊢
  rw [rxWalk_frame] at concluded
  exact concluded

theorem exec_deframe_of_admits {src : Operand} {s : State} (h : admits src s = true) :
    exec (.deframe src) s = .next (deframeRun (operandValue src s) s) :=
  withOperand_admitted h

end Sys2Proof.Machine

/-! ## The statements -/

open Sys2Proof Sys2Proof.Machine

/-- Settles O41: a terminal state absorbs the bits behind it, so both captures run to the same state. -/
theorem inputAfterTheEndIsIgnored : Obligations.InputAfterTheEndIsIgnored := by
  refine ⟨fun s bits more ended => rxWalk_append_of_terminal ended more,
    fun s xs more ended admitted admittedMore =>
      ⟨_, _, exec_deframe_of_admits admitted, exec_deframe_of_admits admittedMore, ?_⟩⟩
  exact congrArg State.results (deframeRun_append_of_terminal ended more)

/-- Settles O42: `deframeRun_frame` gives what is left alone, and one `rxConclude_of_…` lemma each terminal event. -/
theorem deframeResultByTerminalEvent : Obligations.DeframeResultByTerminalEvent := by
  intro src s w O admitted walk octets
  obtain ⟨sameTx, sameModel⟩ := deframeRun_frame (operandValue src s) s
  have concludes : deframeRun (operandValue src s) s = rxConclude w := by rw [walk]; rfl
  refine ⟨_, exec_deframe_of_admits admitted, sameTx, sameModel, ?_⟩
  rw [concludes]
  refine ⟨fun failed => ?_, fun searching => ?_, fun inFrame => ?_, fun done short => ?_,
    fun done data hi lo pair => ?_⟩
  · rw [rxConclude_of_failed failed]; rfl
  · rw [rxConclude_of_searching searching]; rfl
  · rw [rxConclude_of_inFrame inFrame]; rfl
  · rw [rxConclude_of_done_short done (octets ▸ short)]; rfl
  · rw [rxConclude_of_done_pair done (octets.symm.trans pair)]
    refine ⟨fun differs => ?_, fun checks => ?_⟩
    · rw [rxCheck_of_mismatch _ differs]; rfl
    · rw [rxCheck_of_match _ checks]; rfl

/-- Settles O38, branch by branch of the step on the shifted state. -/
theorem inFrameStepFollowsItsRules : Obligations.InFrameStepFollowsItsRules := by
  rintro s t sr inFrame rfl
  rw [rxStep_inFrame inFrame]
  refine ⟨fun flag => ?_, fun noFlag one exceeds => ?_, fun noFlag one within => ?_,
    fun noFlag zero stuffed => ?_, fun noFlag zero data => ?_⟩
  · exact rxFrameStep_of_flag flag t
  · subst one
    exact (rxFrameStep_true_of_not_flag noFlag).trans (rxOneStep_of_exceeds exceeds)
  · subst one
    exact (rxFrameStep_true_of_not_flag noFlag).trans (rxOneStep_of_le_six within)
  · subst zero
    exact (rxFrameStep_false_of_not_flag noFlag).trans (rxZeroStep_of_stuffed stuffed)
  · subst zero
    exact (rxFrameStep_false_of_not_flag noFlag).trans (rxZeroStep_of_data data)
end

section
/-! PROOFS. The command interface (spec/20_memory.md R54, spec/30_encoding.md section 2, spec/60_exceptions.md):
what every command answers, admitted or refused, what each leaves alone, and one step by the kind of the host's next
move. The statements O3, O4, O10, O14, O1, O2, O5 to O9, O11 and O12. -/

namespace Sys2Proof.Machine

/-! ## The rows of R67 -/

theorem complete_value_consistent (v : Word) (s : State) : (s.complete .ok v []).ResultsConsistent :=
  ⟨.inl rfl, fun bad => absurd rfl bad, fun bad => absurd rfl bad⟩

theorem complete_out_consistent (o : List Octet) (s : State) : (s.complete .ok 0x0000 o).ResultsConsistent :=
  ⟨.inl rfl, fun bad => absurd rfl bad, fun _ => rfl⟩

theorem raise_consistent (code : ResultCode) (h : code ≠ .malformedAddress) (s : State) :
    (s.raise code).ResultsConsistent := by
  refine ⟨?_, fun _ => ⟨rfl, rfl⟩, fun bad => absurd rfl bad⟩
  cases code with
  | malformedAddress => exact absurd rfl h
  | ok | bitStuffViolation | frameNotFound | incompleteFrame | crcMismatch => simp [legalStatus, statusOf]

theorem rxConclude_consistent (s : State) : (rxConclude s).ResultsConsistent := by
  obtain ⟨-, ends⟩ | ⟨-, ends⟩ | ⟨-, ends⟩ | ⟨-, -, ends⟩ | ⟨-, -, ends⟩ := rxConclude_cases s
  · exact ends ▸ raise_consistent .frameNotFound nofun _
  · exact ends ▸ raise_consistent .incompleteFrame nofun _
  · exact ends ▸ raise_consistent .bitStuffViolation nofun _
  · exact ends ▸ raise_consistent .crcMismatch nofun _
  · obtain agrees | differs := rxCheck_cases (group8 s.rxRetract.rxDbits) s.rxRetract
    · exact ends ▸ agrees ▸ complete_out_consistent _ _
    · exact ends ▸ differs ▸ raise_consistent .crcMismatch nofun _

/-! ## What each command leaves alone (R37) -/

theorem crcCalcRun_frame (xs : List Octet) (s : State) :
    SameTxUnit s (crcCalcRun xs s) ∧ SameRxUnit s (crcCalcRun xs s) ∧ SameModelFields s (crcCalcRun xs s) := by
  rw [crcCalcRun_eq_complete]
  exact ⟨⟨rfl, rfl⟩, ⟨rfl, rfl, rfl, rfl, rfl⟩, rfl, rfl, rfl⟩

theorem frameRun_frame (xs : List Octet) (s : State) :
    SameRxUnit s (frameRun xs s) ∧ SameModelFields s (frameRun xs s) := by
  rw [frameRun_eq_complete, txRun_frame]
  exact ⟨⟨rfl, rfl, rfl, rfl, rfl⟩, rfl, rfl, rfl⟩

/-! ## What every command answers -/

theorem exec_of_admitsInstr {i : Instr} {s : State} (h : admitsInstr i s = true) :
    ∃ t, exec i s = .next t ∧ t.ResultsConsistent ∧ SameModelFields s t := by
  cases i with
  | crcTableRead idx => exact ⟨_, rfl, complete_value_consistent _ _, rfl, rfl, rfl⟩
  | crcCalc src =>
    obtain ⟨-, -, sameModel⟩ := crcCalcRun_frame (operandValue src s) s
    refine ⟨_, exec_crcCalc_of_admits h, ?_, sameModel⟩
    rw [crcCalcRun_eq_complete]
    exact complete_value_consistent _ _
  | frame src =>
    obtain ⟨-, sameModel⟩ := frameRun_frame (operandValue src s) s
    refine ⟨_, exec_frame_of_admits h, ?_, sameModel⟩
    rw [frameRun_eq_complete]
    exact complete_out_consistent _ _
  | deframe src =>
    obtain ⟨-, sameModel⟩ := deframeRun_frame (operandValue src s) s
    exact ⟨_, exec_deframe_of_admits h, rxConclude_consistent _, sameModel⟩

/-- A command whose operand is too long is refused (R65, R186). -/
theorem exec_of_not_admitsInstr {i : Instr} {s : State} (h : admitsInstr i s = false) :
    exec i s = .next s.refuse := by
  cases i with
  | crcTableRead idx => cases h
  | crcCalc src | frame src | deframe src => exact withOperand_oversize h

/-- Everything a command can answer, in one disjunction. -/
theorem exec_next_cases {i : Instr} {s t : State} (h : exec i s = .next t) :
    (admitsInstr i s = true ∧ t.ResultsConsistent ∧ SameModelFields s t) ∨
      (admitsInstr i s = false ∧ t = s.refuse) := by
  cases admitted : admitsInstr i s with
  | true =>
    obtain ⟨u, answer, keeps⟩ := exec_of_admitsInstr admitted
    rw [answer] at h
    cases h
    exact .inl ⟨rfl, keeps⟩
  | false =>
    rw [exec_of_not_admitsInstr admitted] at h
    cases h
    exact .inr ⟨rfl, rfl⟩

/-- A refusal keeps the result registers, an admitted command writes consistent ones. -/
theorem exec_keeps_consistent {i : Instr} {s t : State} (consistent : s.ResultsConsistent) (h : exec i s = .next t) :
    t.ResultsConsistent := by
  obtain ⟨-, writes, -⟩ | ⟨-, rfl⟩ := exec_next_cases h
  · exact writes
  · exact consistent

/-- No command clears the mark, and none touches the parameter or the moves. -/
theorem exec_keeps_modelFields {i : Instr} {s t : State} (h : exec i s = .next t) :
    (s.refusalMark = true → t.refusalMark = true) ∧ t.maxInputOctets = s.maxInputOctets ∧ t.pending = s.pending := by
  obtain ⟨-, -, sameMark, samePending, sameLimit⟩ | ⟨-, rfl⟩ := exec_next_cases h
  · exact ⟨fun marked => sameMark.trans marked, sameLimit, samePending⟩
  · exact ⟨fun _ => rfl, rfl, rfl⟩

/-! ## One step by the kind of the next move -/

theorem step_of_idle {s : State} (h : s.pending = []) : step s = .next s := by
  rw [step, nextRequest, h]
  rfl

theorem step_of_reset {s : State} {rest : List HostMove} (h : s.pending = .reset :: rest) :
    step s = .next s.takeMove.resetBlock := by
  rw [step, nextRequest, h]
  rfl

theorem step_of_decoded {s : State} {c : Command} {rest : List HostMove} {i : Instr}
    (h : s.pending = .issue c :: rest) (decodes : decode c = .instr i) : step s = exec i s.takeMove := by
  rw [step, nextRequest, h]
  simp only [decodes, requestOf]

theorem step_of_rejected {s : State} {c : Command} {rest : List HostMove} {e : DecodeError}
    (h : s.pending = .issue c :: rest) (rejects : decode c = .rejected e) : step s = execRejected e s.takeMove := by
  rw [step, nextRequest, h]
  simp only [rejects, requestOf]

theorem takeMove_eq_of_pending {s : State} {m : HostMove} {rest : List HostMove} (h : s.pending = m :: rest) :
    s.takeMove = { s with pending := rest } := by
  rw [State.takeMove, h]
  rfl

/-- Taking the move that was just put in front gives the state back. -/
theorem takeMove_issueNext (c : Command) (s : State) : (s.issueNext c).takeMove = s := rfl

/-! ## Rejected commands (R62, R64) -/

theorem decode_of_reserved {op : Octet} (reserved : op = 0x00 ∨ 0x05 ≤ op.toNat) (src : Operand) :
    decode ⟨op, src⟩ = .rejected (.reservedOpcode op) := by
  have unassigned : op ≠ opCrcTableRead ∧ op ≠ opCrcCalc ∧ op ≠ opFrame ∧ op ≠ opDeframe := by
    refine ⟨?_, ?_, ?_, ?_⟩ <;> rintro rfl <;> exact absurd reserved (by decide)
  obtain ⟨notRead, notCalc, notFrame, notDeframe⟩ := unassigned
  simp only [decode, if_neg notRead, if_neg notCalc, if_neg notFrame, if_neg notDeframe]

theorem decodeTableIndex_of_not_single {src : Operand} (h : ¬ ∃ idx : Octet, src = .octets [idx]) :
    decodeTableIndex src = .rejected (.operandForm opCrcTableRead) :=
  decodeTableIndex.eq_2 src fun idx single => h ⟨idx, single⟩

theorem decode_of_tableWord {nbits w : Nat} {i : Instr} (h : decodeTableWord nbits w = some i) :
    decode (tableCommand nbits w) = .instr i := by
  unfold decodeTableWord at h
  cases answer : decode (tableCommand nbits w) with
  | instr j => rw [answer] at h; cases h; rfl
  | rejected e => rw [answer] at h; cases h

/-- The listed `CRC_ROM` is the table that R80 constructs. -/
theorem romRead_toNat_eq_tableEntry (i : Octet) : (romRead i).toNat = tableEntry i.toNat := by
  revert i
  decide +kernel

end Sys2Proof.Machine

/-! ## The statements -/

open Sys2Proof Sys2Proof.Machine

/-- Settles O3, over the four things a step can do: an idle or refusing one keeps the registers, a reset and an
admitted command write a row of R67. -/
theorem stepKeepsResultsConsistent : Obligations.StepKeepsResultsConsistent := by
  intro s t consistent answer
  obtain ⟨-, rfl⟩ | ⟨rest, -, rfl⟩ | ⟨c, rest, i, -, -, runs⟩ | ⟨c, rest, op, -, -, rfl⟩ := step_cases answer
  · exact consistent
  · exact ⟨.inl rfl, fun bad => absurd rfl bad, fun _ => rfl⟩
  · exact exec_keeps_consistent (s := s.takeMove) consistent runs
  · exact consistent

/-- Settles O4, over the four things a step can do. -/
theorem stepKeepsMarkAndParameter : Obligations.StepKeepsMarkAndParameter := by
  intro s t answer
  obtain ⟨idle, rfl⟩ | ⟨rest, -, rfl⟩ | ⟨c, rest, i, -, -, runs⟩ | ⟨c, rest, op, -, -, rfl⟩ := step_cases answer
  · exact ⟨id, rfl, by rw [idle]; rfl⟩
  · exact ⟨id, rfl, rfl⟩
  · exact exec_keeps_modelFields runs
  · exact ⟨fun _ => rfl, rfl, rfl⟩

/-- Settles O10: an admitted command completes, one on an oversize operand is refused. -/
theorem everyCommandCompletes : Obligations.EveryCommandCompletes := by
  intro i s
  cases admitted : admitsInstr i s with
  | true =>
    obtain ⟨t, answer, ⟨legal, -, -⟩, sameMark, -, -⟩ := exec_of_admitsInstr admitted
    exact ⟨t, answer, fun _ => ⟨sameMark, legal⟩⟩
  | false => exact ⟨_, exec_of_not_admitsInstr admitted, nofun⟩

/-- Settles O14, from the frame of each command; a refused one touches the mark alone. -/
theorem commandsWriteOnlyTheirRegisters : Obligations.CommandsWriteOnlyTheirRegisters := by
  refine ⟨fun idx s t answer => ?_, fun src s t answer => ?_, fun src s t answer => ?_, fun src s t answer => ?_,
    fun i s t answer => ?_⟩
  · cases answer
    exact ⟨⟨rfl, rfl⟩, ⟨rfl, rfl⟩, ⟨rfl, rfl, rfl, rfl, rfl⟩, rfl, rfl, rfl⟩
  · obtain ⟨-, rfl⟩ | ⟨-, rfl⟩ := withOperand_next answer
    · obtain ⟨sameTx, sameRx, -⟩ := crcCalcRun_frame (operandValue src s) s
      exact ⟨sameTx, sameRx⟩
    · exact ⟨⟨rfl, rfl⟩, rfl, rfl, rfl, rfl, rfl⟩
  · obtain ⟨-, rfl⟩ | ⟨-, rfl⟩ := withOperand_next answer
    · exact (frameRun_frame _ _).left
    · exact ⟨rfl, rfl, rfl, rfl, rfl⟩
  · obtain ⟨-, rfl⟩ | ⟨-, rfl⟩ := withOperand_next answer
    · exact (deframeRun_frame _ _).left
    · exact ⟨rfl, rfl⟩
  · obtain ⟨-, sameLimit, samePending⟩ := exec_keeps_modelFields answer
    refine ⟨samePending, sameLimit, fun written fits => ?_⟩
    obtain ⟨-, -, sameMark, -⟩ | ⟨refused, -⟩ := exec_next_cases answer
    · exact sameMark
    · rw [admitsInstr_resolved i s written, fits] at refused
      cases refused

/-- Settles O1: R38's values stand in `State.reset`, the ROM is compared entry by entry, and a reset move resets the
block that took it. -/
theorem resetSetsEveryRegister : Obligations.ResetSetsEveryRegister := by
  refine ⟨⟨rfl, rfl, rfl, rfl, rfl, rfl, rfl, rfl, rfl, rfl⟩, romRead_toNat_eq_tableEntry, fun s rest next => ?_⟩
  rw [step_of_reset next, takeMove_eq_of_pending next]
  rfl

/-- Settles O2: the reset results are those of a completed command without a value. -/
theorem resetResultsAreConsistent : Obligations.ResetResultsAreConsistent :=
  complete_value_consistent 0x0000 State.reset

/-- Settles O5. -/
theorem stepRunsTheDecodedCommand : Obligations.StepRunsTheDecodedCommand := by
  refine ⟨fun s c rest i next decodes => ?_, fun s nbits w i word => ?_⟩
  · rw [step_of_decoded next decodes, takeMove_eq_of_pending next]
  · have next : (s.withFetchWord nbits w).pending = .issue (tableCommand nbits w) :: s.pending := rfl
    rw [step_of_decoded next (decode_of_tableWord word), State.withFetchWord, takeMove_issueNext]

/-- Settles O6. -/
theorem idleBlockHoldsItsRegisters : Obligations.IdleBlockHoldsItsRegisters :=
  fun _ idle => step_of_idle idle

/-- Settles O7: a reserved opcode equals none of the four assigned ones. -/
theorem reservedOpcodesAreRefused : Obligations.ReservedOpcodesAreRefused := by
  intro s op src rest next reserved
  rw [step_of_rejected next (decode_of_reserved reserved src), takeMove_eq_of_pending next]
  rfl

/-- Settles O8. -/
theorem tableReadOperandFormStops : Obligations.TableReadOperandFormStops := by
  intro s src rest next otherForm
  rw [step_of_rejected next (decodeTableIndex_of_not_single otherForm)]
  rfl

/-- Settles O9: under a limit an operand is refused exactly when it exceeds it, and without one every command is
admitted. -/
theorem oversizeOperandsAreRefused : Obligations.OversizeOperandsAreRefused := by
  refine ⟨fun src s m limit exceeds => ?_, fun i s unbounded => ?_⟩
  · have refused : admits src s = false := (admits_eq_false_iff src s).mpr ⟨m, limit, exceeds⟩
    exact ⟨withOperand_oversize refused, withOperand_oversize refused, withOperand_oversize refused⟩
  · obtain ⟨t, answer, -, sameMark, -⟩ := exec_of_admitsInstr (admitsInstr_unbounded i unbounded)
    exact ⟨t, answer, sameMark⟩

/-- Settles O11: both sides read the same octets at issue. -/
theorem outOperandIsThePreviousOutput : Obligations.OutOperandIsThePreviousOutput :=
  fun _ => ⟨rfl, rfl, rfl⟩

/-- Settles O12. -/
theorem raisedErrorLeavesNoPartialResult : Obligations.RaisedErrorLeavesNoPartialResult :=
  fun _ _ => rfl
end

section
/-! PROOFS. The decoder and the assembler (spec/30_encoding.md sections 1 and 4): decoding against encoding, the
parsers on printed and quoted operands, and programs line by line. The statements O17, O16, O50, O51 and O15. -/

namespace Sys2Proof

/-! ## Decoding and encoding (R60 to R63) -/

theorem decode_encode (i : Instr) : decode (encode i) = .instr i := by
  cases i <;> rfl

theorem decodeTableIndex_eq_instr {src : Operand} {i : Instr} (h : decodeTableIndex src = .instr i) :
    ∃ idx, src = .octets [idx] ∧ i = .crcTableRead idx := by
  unfold decodeTableIndex at h
  split at h
  · next idx => cases h; exact ⟨idx, rfl, rfl⟩
  · cases h

/-- The decoder reads no second raw command for an instruction: one case for each row of R60. -/
theorem eq_encode_of_decode {c : Command} {i : Instr} (h : decode c = .instr i) : c = encode i := by
  obtain ⟨op, src⟩ := c
  simp only [decode] at h
  split at h
  · next isRead =>
    obtain ⟨idx, rfl, rfl⟩ := decodeTableIndex_eq_instr h
    rw [isRead, encode]
  · split at h
    · next isCalc => cases h; rw [isCalc, encode]
    · split at h
      · next isFrame => cases h; rw [isFrame, encode]
      · split at h
        · next isDeframe => cases h; rw [isDeframe, encode]
        · cases h

theorem decode_eq_instr_iff (c : Command) (i : Instr) : decode c = .instr i ↔ c = encode i :=
  ⟨eq_encode_of_decode, fun encoded => encoded ▸ decode_encode i⟩

/-- A listing is the encoding's opcode and its written operand. -/
theorem encodeListing_eq_some_cons_iff (i : Instr) (op : Octet) (xs : List Octet) :
    encodeListing i = some (op :: xs) ↔ encode i = ⟨op, .octets xs⟩ := by
  unfold encodeListing
  obtain ⟨op', src⟩ := encode i
  cases src <;> simp [operandOctets]

theorem encodeListing_ne_some_nil (i : Instr) : encodeListing i ≠ some [] := by
  simp [encodeListing]

namespace Machine

/-! ## Characters -/

theorem not_newline_of_isBlank {cs : List Char} (h : cs.all isBlank = true) : '\n' ∉ cs :=
  fun mem => absurd (List.all_eq_true.mp h '\n' mem) (by decide)

theorem dropWhile_isBlank_append {blanks : List Char} (h : blanks.all isBlank = true) (cs : List Char) :
    (blanks ++ cs).dropWhile isBlank = cs.dropWhile isBlank :=
  List.dropWhile_append_of_pos (List.all_eq_true.mp h)

theorem hexValue_hexDigit {n : Nat} (h : n < 16) : hexValue (hexDigit n) = some n := by
  revert n
  decide

/-- A printed digit is none of the characters the parsers treat apart. -/
theorem hexDigit_plain {n : Nat} (h : n < 16) :
    (hexDigit n == ']') = false ∧ isBlank (hexDigit n) = false ∧ hexDigit n ≠ '\n' := by
  revert n
  decide

theorem hexOctet_digits (o : Octet) :
    hexOctet (hexDigit (o.toNat / 16)) (hexDigit (o.toNat % 16)) = some o := by
  have high : o.toNat / 16 < 16 := by omega
  have low : o.toNat % 16 < 16 := by omega
  rw [hexOctet, hexValue_hexDigit high, hexValue_hexDigit low]
  simp only [Nat.div_add_mod, BitVec.ofNat_toNat, BitVec.setWidth_eq]

theorem not_newline_printOctet (o : Octet) : '\n' ∉ printOctet o := by
  obtain ⟨-, -, high⟩ := hexDigit_plain (n := o.toNat / 16) (by omega)
  obtain ⟨-, -, low⟩ := hexDigit_plain (n := o.toNat % 16) (by omega)
  simp [printOctet, high.symm, low.symm]

/-! ## Operands -/

theorem parseOctets_blank (cs : List Char) : parseOctets (' ' :: cs) = parseOctets cs := by
  rw [parseOctets.eq_def]
  rfl

theorem parseOctets_bracket (after : List Char) : parseOctets (']' :: after) = some ([], after) := by
  rw [parseOctets.eq_def]
  rfl

theorem parseOctets_printOctet {o : Octet} {os : List Octet} {cs after : List Char}
    (h : parseOctets cs = some (os, after)) : parseOctets (printOctet o ++ cs) = some (o :: os, after) := by
  obtain ⟨noBracket, noBlank, -⟩ := hexDigit_plain (n := o.toNat / 16) (by omega)
  rw [printOctet, List.cons_append, List.cons_append, List.nil_append, parseOctets, noBracket, noBlank]
  simp only [hexOctet_digits, h, Bool.false_eq_true, if_false]

theorem parseOctets_print (xs : List Octet) (after : List Char) :
    parseOctets (xs.flatMap (fun o => ' ' :: printOctet o) ++ ' ' :: ']' :: after) = some (xs, after) := by
  induction xs with
  | nil => rw [List.flatMap_nil, List.nil_append, parseOctets_blank, parseOctets_bracket]
  | cons o xs ih =>
    rw [List.flatMap_cons, List.cons_append, List.cons_append, parseOctets_blank, List.append_assoc,
      parseOctets_printOctet ih]

theorem parseOperand_bracket (cs : List Char) :
    parseOperand ('[' :: cs) = (parseOctets cs).map (fun p => (Operand.octets p.1, p.2)) := rfl

theorem parseOperand_printOperand (src : Operand) (after : List Char) :
    parseOperand (printOperand src ++ after) = some (src, after) := by
  cases src with
  | out => rfl
  | octets xs =>
    have text : printOperand (.octets xs) ++ after =
        '[' :: (xs.flatMap (fun o => ' ' :: printOctet o) ++ ' ' :: ']' :: after) := by
      simp [printOperand]
    rw [text, parseOperand_bracket, parseOctets_print]
    rfl

/-- Characters before the closing quote are read one by one. -/
theorem parseAscii_text {text : List Char} (h : text.all isTextChar = true) (after : List Char) :
    parseAscii (text ++ '"' :: after) = some (asciiCodes text, after) := by
  induction text with
  | nil => rfl
  | cons c text ih =>
    obtain ⟨first, others⟩ := Bool.and_eq_true_iff.mp (List.all_cons.symm.trans h)
    simp only [isTextChar, Bool.and_eq_true, decide_eq_true_eq, Bool.not_eq_true'] at first
    obtain ⟨⟨ascii, noQuote⟩, -⟩ := first
    rw [List.cons_append, parseAscii, noQuote, if_neg Bool.false_ne_true, if_pos ascii, ih others]
    rfl

theorem parseOperand_quote (cs : List Char) :
    parseOperand ('"' :: cs) = (parseAscii cs).map (fun p => (Operand.octets p.1, p.2)) := rfl

theorem parseOperand_printQuoted {text : List Char} (h : text.all isTextChar = true) (after : List Char) :
    parseOperand (printQuoted text ++ after) = some (.octets (asciiCodes text), after) := by
  rw [printQuoted, List.append_assoc, List.cons_append, parseOperand_quote]
  simp only [List.singleton_append, parseAscii_text h, Option.map_some]

theorem not_newline_printOperand (src : Operand) : '\n' ∉ printOperand src := by
  cases src with
  | out => decide
  | octets xs =>
    simp only [printOperand, List.mem_append, List.mem_cons, List.mem_flatMap, not_or, not_exists, not_and]
    exact ⟨⟨by decide, fun o _ => ⟨by decide, not_newline_printOctet o⟩⟩, by decide⟩

theorem not_newline_printQuoted {text : List Char} (h : text.all isTextChar = true) : '\n' ∉ printQuoted text := by
  have inText : '\n' ∉ text := fun mem => absurd (List.all_eq_true.mp h '\n' mem) (by decide)
  simp [printQuoted, inText]

/-! ## Commands: the mnemonic ends at the blank, and the operand ends the line -/

theorem parseOctetCommand_of_operand {make : Operand → Instr} {c : Char} {cs after : List Char} {src : Operand}
    (noBlank : isBlank c = false) (reads : parseOperand (c :: cs) = some (src, after))
    (ends : restIsComment after = true) : parseOctetCommand make (' ' :: c :: cs) = some (make src) := by
  have skips : (' ' :: c :: cs).dropWhile isBlank = c :: cs := by
    rw [List.dropWhile_cons_of_pos (by decide), List.dropWhile_cons_of_neg (by rw [noBlank]; decide)]
  rw [parseOctetCommand, skips, reads]
  exact if_pos ends

/-- A printed operand starts with no blank. -/
theorem parseOctetCommand_printOperand (make : Operand → Instr) (src : Operand) {after : List Char}
    (ends : restIsComment after = true) :
    parseOctetCommand make (' ' :: (printOperand src ++ after)) = some (make src) := by
  have reads := parseOperand_printOperand src after
  cases src with
  | out => exact parseOctetCommand_of_operand (by decide) reads ends
  | octets xs => exact parseOctetCommand_of_operand (by decide) reads ends

theorem parseOctetCommand_printQuoted (make : Operand → Instr) {text : List Char}
    (h : text.all isTextChar = true) :
    parseOctetCommand make (' ' :: printQuoted text) = some (make (.octets (asciiCodes text))) := by
  have reads := parseOperand_printQuoted h []
  rw [List.append_nil] at reads
  exact parseOctetCommand_of_operand (by decide) reads rfl

theorem parseTableRead_printOctet (idx : Octet) {after : List Char} (ends : restIsComment after = true) :
    parseTableRead (' ' :: '0' :: 'x' :: (printOctet idx ++ after)) = some (.crcTableRead idx) := by
  have reads : parseImm8 ('0' :: 'x' :: (printOctet idx ++ after)) = some (idx, after) := by
    change (hexOctet _ _).map (fun o => (o, after)) = _
    rw [hexOctet_digits]
    rfl
  have skips : (' ' :: '0' :: 'x' :: (printOctet idx ++ after)).dropWhile isBlank =
      '0' :: 'x' :: (printOctet idx ++ after) := rfl
  rw [parseTableRead, skips, reads]
  exact if_pos ends

theorem parseCommand_tableRead (cs : List Char) :
    parseCommand (nameTableRead ++ ' ' :: cs) = parseTableRead (' ' :: cs) := rfl

theorem parseCommand_crcCalc (cs : List Char) :
    parseCommand (nameCrcCalc ++ ' ' :: cs) = parseOctetCommand .crcCalc (' ' :: cs) := rfl

theorem parseCommand_frame (cs : List Char) :
    parseCommand (nameFrame ++ ' ' :: cs) = parseOctetCommand .frame (' ' :: cs) := rfl

theorem parseCommand_deframe (cs : List Char) :
    parseCommand (nameDeframe ++ ' ' :: cs) = parseOctetCommand .deframe (' ' :: cs) := rfl

theorem parseCommand_printCommand (i : Instr) {after : List Char} (ends : restIsComment after = true) :
    parseCommand (printCommand i ++ after) = some i := by
  cases i with
  | crcTableRead idx => exact (parseCommand_tableRead _).trans (parseTableRead_printOctet idx ends)
  | crcCalc src => exact (parseCommand_crcCalc _).trans (parseOctetCommand_printOperand .crcCalc src ends)
  | frame src => exact (parseCommand_frame _).trans (parseOctetCommand_printOperand .frame src ends)
  | deframe src => exact (parseCommand_deframe _).trans (parseOctetCommand_printOperand .deframe src ends)

theorem not_newline_printCommand (i : Instr) : '\n' ∉ printCommand i := by
  cases i with
  | crcTableRead idx =>
    simp only [printCommand, List.mem_append, not_or]
    exact ⟨⟨by decide, by decide⟩, not_newline_printOctet idx⟩
  | crcCalc src | frame src | deframe src =>
    simp only [printCommand, List.mem_append, not_or]
    exact ⟨⟨by decide, by decide⟩, not_newline_printOperand src⟩

/-! ## Lines -/

theorem restIsComment_append {blanks : List Char} (h : blanks.all isBlank = true) (cs : List Char) :
    restIsComment (blanks ++ cs) = restIsComment cs := by
  rw [restIsComment, restIsComment, dropWhile_isBlank_append h]

theorem restIsComment_printComment (comment : Option (List Char)) : restIsComment (printComment comment) = true := by
  cases comment <;> rfl

theorem parseLine_append {blanks : List Char} (h : blanks.all isBlank = true) (cs : List Char) :
    parseLine (blanks ++ cs) = parseLine cs := by
  rw [parseLine, parseLine, restIsComment_append h, dropWhile_isBlank_append h]

/-- A line that starts with neither a blank nor a comment holds a command. -/
theorem parseLine_of_command {c : Char} {cs : List Char} {i : Instr} (noBlank : isBlank c = false)
    (noComment : (c == ';') = false) (reads : parseCommand (c :: cs) = some i) : parseLine (c :: cs) = some [i] := by
  have starts : (c :: cs).dropWhile isBlank = c :: cs := List.dropWhile_cons_of_neg (by rw [noBlank]; decide)
  have holds : restIsComment (c :: cs) = false := by rw [restIsComment, starts]; exact noComment
  rw [parseLine, holds, starts, reads]
  rfl

theorem parseLine_printCommand (i : Instr) {after : List Char} (ends : restIsComment after = true) :
    parseLine (printCommand i ++ after) = some [i] := by
  have reads := parseCommand_printCommand i ends
  cases i <;> exact parseLine_of_command (by decide) (by decide) reads

/-- A line in its parts, without its NEWLINE. -/
def lineText (l : SourceLine) : List Char :=
  l.indent ++ (printOptional l.command ++ (l.gap ++ printComment l.comment))

theorem printSourceLine_eq (l : SourceLine) : printSourceLine l = lineText l ++ ['\n'] := by
  simp [printSourceLine, lineText]

theorem properLine_iff (l : SourceLine) :
    properLine l = true ↔
      l.indent.all isBlank = true ∧ l.gap.all isBlank = true ∧ '\n' ∉ printComment l.comment := by
  simp [properLine, and_assoc]

theorem parseLine_lineText {l : SourceLine} (h : properLine l = true) :
    parseLine (lineText l) = some l.command.toList := by
  obtain ⟨indent, gap, -⟩ := (properLine_iff l).mp h
  have ends : restIsComment (l.gap ++ printComment l.comment) = true := by
    rw [restIsComment_append gap, restIsComment_printComment]
  rw [lineText, parseLine_append indent]
  cases l.command with
  | none => exact if_pos ends
  | some i => exact parseLine_printCommand i ends

theorem not_newline_lineText {l : SourceLine} (h : properLine l = true) : '\n' ∉ lineText l := by
  obtain ⟨indent, gap, comment⟩ := (properLine_iff l).mp h
  have command : '\n' ∉ printOptional l.command := by
    cases l.command with
    | none => exact List.not_mem_nil
    | some i => exact not_newline_printCommand i
  simp only [lineText, List.mem_append, not_or]
  exact ⟨not_newline_of_isBlank indent, command, not_newline_of_isBlank gap, comment⟩

/-! ## Programs, line by line -/

theorem splitLines_append {l : List Char} (h : '\n' ∉ l) (rest : List Char) :
    splitLines (l ++ '\n' :: rest) = l :: splitLines rest := by
  induction l with
  | nil => rfl
  | cons c l ih =>
    obtain ⟨notFirst, notLater⟩ := not_or.mp (mt List.mem_cons.mpr h)
    have noBreak : (c == '\n') = false := beq_eq_false_iff_ne.mpr (Ne.symm notFirst)
    rw [List.cons_append, splitLines, noBreak, ih notLater]
    rfl

theorem parseProgram_append {l : List Char} {is : List Instr} (h : '\n' ∉ l) (reads : parseLine l = some is)
    {rest : List Char} {more : List Instr} (readsRest : parseProgram rest = some more) :
    parseProgram (l ++ '\n' :: rest) = some (is ++ more) := by
  rw [parseProgram] at readsRest
  rw [parseProgram, splitLines_append h, parseLines, reads, readsRest]

theorem parseProgram_sourceLines {lines : List SourceLine} (h : lines.all properLine = true) :
    parseProgram (lines.flatMap printSourceLine) = some (lines.filterMap SourceLine.command) := by
  induction lines with
  | nil => rfl
  | cons l lines ih =>
    obtain ⟨proper, others⟩ := Bool.and_eq_true_iff.mp (List.all_cons.symm.trans h)
    have text : (l :: lines).flatMap printSourceLine = lineText l ++ '\n' :: lines.flatMap printSourceLine := by
      simp [printSourceLine_eq]
    rw [text, parseProgram_append (not_newline_lineText proper) (parseLine_lineText proper) (ih others)]
    cases command : l.command <;> simp [command]

/-- A printed program is its commands, each a line without blanks or a comment. -/
theorem printProgram_eq_sourceLines (program : List Instr) :
    printProgram program = (program.map fun i => SourceLine.mk [] (some i) [] none).flatMap printSourceLine := by
  rw [printProgram, List.flatMap_map]
  exact List.flatMap_congr fun i _ => by simp [printSourceLine, printOptional, printComment]

theorem parseProgram_printProgram (program : List Instr) : parseProgram (printProgram program) = some program := by
  rw [printProgram_eq_sourceLines, parseProgram_sourceLines (by simp [properLine, printComment])]
  simp [List.filterMap_map]

/-- One line with one command assembles to its encoding. -/
theorem assemble_line {l : List Char} {i : Instr} (h : '\n' ∉ l) (reads : parseLine l = some [i]) :
    assemble (l ++ ['\n']) = some [encode i] := by
  have ends : parseProgram [] = some [] := rfl
  rw [assemble, parseProgram_append h reads ends]
  rfl

/-- A mnemonic with a quoted text behind it is a line with one command. -/
theorem assemble_quoted {text : List Char} (h : text.all isTextChar = true) {c : Char} {name : List Char}
    {make : Operand → Instr} (noBlank : isBlank c = false) (noComment : (c == ';') = false) (noBreak : '\n' ∉ c :: name)
    (named : ∀ cs, parseCommand (c :: name ++ ' ' :: cs) = parseOctetCommand make (' ' :: cs)) :
    assemble (c :: name ++ ' ' :: printQuoted text ++ ['\n']) = some [encode (make (.octets (asciiCodes text)))] := by
  have reads := (named (printQuoted text)).trans (parseOctetCommand_printQuoted make h)
  have inLine : '\n' ∉ c :: name ++ ' ' :: printQuoted text := by
    exact List.mem_append.not.mpr
      (not_or.mpr ⟨noBreak, List.not_mem_cons_of_ne_of_not_mem (by decide) (not_newline_printQuoted h)⟩)
  exact assemble_line inLine (parseLine_of_command noBlank noComment reads)

end Machine

end Sys2Proof

/-! ## The statements -/

open Sys2Proof Sys2Proof.Machine

/-- Settles O17: the printed text parses to the program, and each encoding decodes back. -/
theorem assembledProgramsDecodeBack : Obligations.AssembledProgramsDecodeBack := by
  intro program
  refine ⟨program.map encode, ?_, ?_⟩
  · rw [assemble, parseProgram_printProgram]
    rfl
  · rw [List.map_map]
    exact List.map_congr_left fun i _ => decode_encode i

/-- Settles O16. -/
theorem decodingInvertsEncoding : Obligations.DecodingInvertsEncoding := by
  refine ⟨decode_eq_instr_iff, fun octets i => ?_⟩
  cases octets with
  | nil => exact ⟨nofun, fun listed => absurd listed (encodeListing_ne_some_nil i)⟩
  | cons op operand =>
    rw [encodeListing_eq_some_cons_iff, decodeListing, Option.some_inj, decode_eq_instr_iff, eq_comm]

/-- Settles O50: the text is read up to its closing quote, and the line holds that one command. -/
theorem quotedOperandsAssembleToTheirCodes : Obligations.QuotedOperandsAssembleToTheirCodes := by
  intro text plain
  exact ⟨parseOperand_printQuoted plain,
    assemble_quoted plain (by decide) (by decide) (by decide) parseCommand_crcCalc,
    assemble_quoted plain (by decide) (by decide) (by decide) parseCommand_frame,
    assemble_quoted plain (by decide) (by decide) (by decide) parseCommand_deframe⟩

/-- Settles O51: each line yields its command or nothing. -/
theorem commentsAndBlankLinesGiveNoCommand : Obligations.CommentsAndBlankLinesGiveNoCommand := by
  intro lines proper
  rw [assemble, parseProgram_sourceLines proper]
  rfl

/-- Settles O15, by running the decoder on the words. -/
theorem tableWordsDecode : Obligations.TableWordsDecode := by
  refine ⟨rfl, rfl, rfl, rfl, rfl, rfl, rfl, rfl, rfl⟩
end

section
/-! PROOFS. The algebra of the checksum (spec/40_crc.md R81, R85, R88 to R91): a shift step on words, which is
linear and gives the table and the table-driven step, and the residue. The statements O20, O22, O23, O25 and O24. -/

namespace Sys2Proof.Machine

/-! ## The octets of a word -/

theorem hiOctet_xor (v w : Word) : hiOctet (v ^^^ w) = hiOctet v ^^^ hiOctet w :=
  BitVec.extractLsb'_xor

theorem loOctet_xor (v w : Word) : loOctet (v ^^^ w) = loOctet v ^^^ loOctet w :=
  BitVec.extractLsb'_xor

theorem hiOctet_shiftLeft_eight (v : Word) : hiOctet (v <<< 8) = loOctet v := by
  ext i hi
  simp [hiOctet, loOctet]
  omega

theorem shiftLeft_eight_eq (v : Word) : v <<< 8 = (loOctet v).setWidth 16 <<< 8 := by
  apply BitVec.eq_of_getLsbD_eq
  intro i hi
  by_cases low : i < 8
  · simp [low]
  · have index : i - 8 < 8 := by omega
    simp [loOctet, low, index, Nat.lt_of_lt_of_le index]

theorem eq_octets_xor (v : Word) : v = (hiOctet v).setWidth 16 <<< 8 ^^^ (loOctet v).setWidth 16 := by
  apply BitVec.eq_of_getLsbD_eq
  intro i hi
  by_cases low : i < 8
  · simp [loOctet, low, hi]
  · have index : i - 8 < 8 := by omega
    have bit : 8 + (i - 8) = i := by omega
    simp [hiOctet, loOctet, low, hi, index, bit]

theorem crcNext_eq (crc : Word) (b : Octet) :
    crcNext crc b = romRead (b ^^^ hiOctet crc) ^^^ (crc <<< 8) := by
  have high : (crc >>> 8).setWidth 8 = hiOctet crc := by
    ext i hi
    simp [hiOctet]
  rw [crcNext, high]

/-! ## The shift step of R88 on words -/

/-- One shift step on the register: the bit shifted out decides whether the generator is added. -/
def crcShift (r : Word) : Word :=
  if r.msb then (r <<< 1) ^^^ 0x1021 else r <<< 1

/-- It is the step `crcShiftStep` of the statement, whose mask is the width here. -/
theorem crcShift_toNat (r : Word) : (crcShift r).toNat = crcShiftStep r.toNat := by
  have top : r.msb = r.toNat.testBit 15 := BitVec.msb_eq_getLsbD_last r
  have shifted : (r <<< 1).toNat = (r.toNat <<< 1) &&& 0xFFFF :=
    (BitVec.toNat_shiftLeft ..).trans (Nat.and_two_pow_sub_one_eq_mod _ 16).symm
  rw [crcShift, crcShiftStep, top]
  split
  · rw [BitVec.toNat_xor, shifted, Nat.and_xor_distrib_right]
    rfl
  · exact shifted

theorem crcShift_iterate_toNat (n : Nat) (r : Word) : (crcShift^[n] r).toNat = crcShiftStep^[n] r.toNat := by
  induction n generalizing r with
  | zero => rfl
  | succ n ih => rw [Function.iterate_succ_apply, Function.iterate_succ_apply, ih, crcShift_toNat]

/-- Adding the generator twice adds nothing, so the step is linear. -/
theorem crcShift_xor (a b : Word) : crcShift (a ^^^ b) = crcShift a ^^^ crcShift b := by
  rw [crcShift, crcShift, crcShift, BitVec.msb_xor, BitVec.shiftLeft_xor_distrib]
  cases a.msb <;> cases b.msb
  · rfl
  · simp [BitVec.xor_assoc]
  · simp only [Bool.xor_false, Bool.false_eq_true, if_true, if_false]
    ac_rfl
  · simp only [Bool.xor_self, Bool.false_eq_true, if_true, if_false]
    calc a <<< 1 ^^^ b <<< 1
      _ = a <<< 1 ^^^ b <<< 1 ^^^ (0x1021 ^^^ 0x1021) := by rw [BitVec.xor_self, BitVec.xor_zero]
      _ = (a <<< 1 ^^^ 0x1021) ^^^ (b <<< 1 ^^^ 0x1021) := by ac_rfl

theorem crcShift_iterate_xor (n : Nat) (a b : Word) :
    crcShift^[n] (a ^^^ b) = crcShift^[n] a ^^^ crcShift^[n] b := by
  induction n generalizing a b with
  | zero => rfl
  | succ n ih => simp only [Function.iterate_succ_apply, crcShift_xor, ih]

/-! ## The table and the table-driven step by shift steps -/

/-- A table entry is what eight shift steps make of its index in the high octet. -/
theorem romRead_eq_crcShift (i : Octet) : romRead i = crcShift^[8] (i.setWidth 16 <<< 8) := by
  revert i
  decide +kernel

/-- No bit of the low octet is shifted out in eight steps. -/
theorem crcShift_low_octet (i : Octet) : crcShift^[8] (i.setWidth 16) = i.setWidth 16 <<< 8 := by
  revert i
  decide +kernel

theorem setWidth_shiftLeft_xor (a b : Octet) :
    (a ^^^ b).setWidth 16 <<< 8 = (a.setWidth 16 <<< 8 ^^^ b.setWidth 16 <<< 8 : Word) := by
  rw [BitVec.setWidth_xor, BitVec.shiftLeft_xor_distrib]

theorem romRead_xor (a b : Octet) : romRead (a ^^^ b) = romRead a ^^^ romRead b := by
  simp only [romRead_eq_crcShift, setWidth_shiftLeft_xor, crcShift_iterate_xor]

/-- The high octet of the register and the input go through the table, the low octet only moves up. -/
theorem crcNext_eq_crcShift (crc : Word) (b : Octet) :
    crcNext crc b = crcShift^[8] (crc ^^^ b.setWidth 16 <<< 8) := by
  have split : crc ^^^ b.setWidth 16 <<< 8 =
      (b ^^^ hiOctet crc).setWidth 16 <<< 8 ^^^ (loOctet crc).setWidth 16 := by
    conv_lhs => rw [eq_octets_xor crc]
    rw [setWidth_shiftLeft_xor]
    ac_rfl
  rw [split, crcShift_iterate_xor, crcShift_low_octet, ← romRead_eq_crcShift, crcNext_eq, ← shiftLeft_eight_eq]

theorem xor_setWidth_shiftLeft_toNat (crc : Word) (b : Octet) :
    (crc ^^^ b.setWidth 16 <<< 8).toNat = crc.toNat ^^^ (b.toNat <<< 8) := by
  have fits : b.toNat <<< 8 < 2 ^ 16 := by rw [Nat.shiftLeft_eq]; omega
  have width : b.toNat < 2 ^ 16 := by omega
  rw [BitVec.toNat_xor, BitVec.toNat_shiftLeft, BitVec.toNat_setWidth, Nat.mod_eq_of_lt width, Nat.mod_eq_of_lt fits]

/-! ## The residue (R91) -/

theorem xor_mask_cancel (a b : Octet) : a ^^^ b ^^^ a = b := by
  rw [BitVec.xor_comm a b, BitVec.xor_assoc, BitVec.xor_self, BitVec.xor_zero]

/-- The high octet of the checksum takes the high octet of the register out of the table index. -/
theorem crcNext_hiOctet_crcResult (crc : Word) :
    crcNext crc (hiOctet (crcResult crc)) = romRead 0xFF ^^^ (crc <<< 8) := by
  rw [crcNext_eq, crcResult, hiOctet_xor, xor_mask_cancel]
  rfl

/-- After both octets of the checksum nothing of the register is left. -/
theorem crcNext_crcNext_crcResult (crc : Word) :
    crcNext (crcNext crc (hiOctet (crcResult crc))) (loOctet (crcResult crc)) = 0x1D0F := by
  have index : loOctet (crcResult crc) ^^^ hiOctet (romRead 0xFF ^^^ crc <<< 8) = 0xE1 := by
    rw [crcResult, loOctet_xor, hiOctet_xor, hiOctet_shiftLeft_eight]
    calc loOctet crc ^^^ loOctet Config.crcFinalXor ^^^ (hiOctet (romRead 0xFF) ^^^ loOctet crc)
      _ = loOctet crc ^^^ (loOctet Config.crcFinalXor ^^^ hiOctet (romRead 0xFF)) ^^^ loOctet crc := by ac_rfl
      _ = 0xE1 := by rw [xor_mask_cancel]; decide
  have gone : crc <<< 8 <<< 8 = 0 := by
    rw [← BitVec.shiftLeft_add]
    exact BitVec.shiftLeft_eq_zero (by decide)
  rw [crcNext_hiOctet_crcResult, crcNext_eq, index, BitVec.shiftLeft_xor_distrib, gone]
  decide

theorem crc16_append_checksum (xs : List Octet) :
    crc16 (xs ++ [hiOctet (crc16 xs), loOctet (crc16 xs)]) = 0xE2F0 := by
  simp only [crc16, List.foldl_append, List.foldl_cons, List.foldl_nil, crcNext_crcNext_crcResult]
  decide

end Sys2Proof.Machine

/-! ## The statements -/

open Sys2Proof Sys2Proof.Machine

/-- Settles O20. -/
theorem crcUnitRunComputesTheChecksum : Obligations.CrcUnitRunComputesTheChecksum := by
  refine ⟨fun xs s => ⟨crcRun_crcFinal xs s, ?_⟩, crc16_corner_cases.left⟩
  rw [crcRun_eq]

/-- Settles O22: the shift step is linear, and an entry is eight of them. -/
theorem crcTableIsLinear : Obligations.CrcTableIsLinear :=
  romRead_xor

/-- Settles O23. -/
theorem crcStepIsEightShiftSteps : Obligations.CrcStepIsEightShiftSteps := by
  intro crc b
  rw [crcNext_eq_crcShift, crcShift_iterate_toNat, xor_setWidth_shiftLeft_toNat]

/-- Settles O25: the two octets of the checksum leave a register that no longer depends on the sequence. -/
theorem checksumResidueIsConstant : Obligations.ChecksumResidueIsConstant :=
  crc16_append_checksum

/-- Settles O24, by running the checksum on the two strings. -/
theorem checkValuesOfTheCrc : Obligations.CheckValuesOfTheCrc := by
  refine ⟨crc16_check_value, ?_, by decide⟩
  decide +kernel
end

section
/-! PROOFS. What stands on the wire (spec/00_scope.md R13, spec/30_encoding.md section 3, spec/41_framer.md section
3): the orders of bits and octets, the length of a stuffed stream and its inverse, and the runs of 1s in it, on
which the places of the flag pattern rest. The statements O26, O29, O31 to O35. -/

namespace Sys2Proof.Machine

/-! ## Orders of bits and octets (R13, R44 to R47) -/

theorem bitsMsb_octet_of_length {bs : List Bit} (h : bs.length = 8) : bitsMsb (octet bs) = bs := by
  match bs, h with
  | [b7, b6, b5, b4, b3, b2, b1, b0], _ => exact bitsMsb_octet b7 b6 b5 b4 b3 b2 b1 b0

theorem bitsMsb_bitrev8 (b : Octet) : bitsMsb (bitrev8 b) = (bitsMsb b).reverse :=
  bitsMsb_octet_of_length rfl

theorem bitsMsb_getElem? (b : Octet) {k : Nat} (h : k < 8) : (bitsMsb b)[k]? = some (b.getLsbD (7 - k)) := by
  interval_cases k <;> rfl

theorem bitrev8_getLsbD (b : Octet) {i : Nat} (h : i < 8) : (bitrev8 b).getLsbD i = b.getLsbD (7 - i) := by
  have mirrored : 7 - (7 - i) = i := by omega
  have reversed := bitsMsb_getElem? (bitrev8 b) (k := 7 - i) (by omega)
  rw [bitsMsb_bitrev8, List.getElem?_reverse (by simp; omega), bitsMsb_length, mirrored] at reversed
  exact (Option.some_inj.mp ((bitsMsb_getElem? b h).symm.trans reversed)).symm

theorem wordOfOctets_hiOctet_loOctet (v : Word) : wordOfOctets (hiOctet v) (loOctet v) = v :=
  BitVec.extractLsb'_append_extractLsb'_eq_extractLsb' (by decide) |>.trans BitVec.extractLsb'_eq_self

/-! ## The length of a stuffed stream (R73, R111) -/

theorem runFifths_add_five (n : Nat) (bits : List Bit) : runFifths (n + 5) bits = runFifths n bits + 1 := by
  induction bits generalizing n with
  | nil => simp [runFifths]
  | cons t bits ih =>
    cases t with
    | true => rw [runFifths, runFifths, Nat.add_right_comm, ih]
    | false => rw [runFifths, runFifths]; omega

theorem stuffFrom_length (bits : List Bit) {n : Nat} (h : n ≤ 4) :
    (stuffFrom n bits).length = bits.length + runFifths n bits := by
  induction bits generalizing n with
  | nil => simp only [stuffFrom, runFifths, List.length_nil]; omega
  | cons t bits ih =>
    cases t with
    | false => simp only [stuffFrom, runFifths, List.length_cons, ih (Nat.zero_le 4)]; omega
    | true =>
      by_cases fifth : n + 1 = 5
      · have counted : runFifths (n + 1) bits = runFifths 0 bits + 1 := by rw [fifth, ← runFifths_add_five]
        simp only [stuffFrom, if_pos fifth, runFifths, List.length_cons, ih (Nat.zero_le 4), counted]
        omega
      · have within : n + 1 ≤ 4 := by omega
        simp only [stuffFrom, if_neg fifth, runFifths, List.length_cons, ih within]
        omega

theorem runFifths_le (n : Nat) (bits : List Bit) : runFifths n bits ≤ (n + bits.length) / 5 := by
  induction bits generalizing n with
  | nil => simp [runFifths]
  | cons t bits ih =>
    cases t with
    | true => have tail := ih (n + 1); rw [runFifths, List.length_cons]; omega
    | false => have tail := ih 0; rw [runFifths, List.length_cons]; omega

/-! ## Destuffing undoes stuffing (R113) -/

/-- Destuffing a stuffed stream gives its bits back and goes on behind it with a count of at most four. -/
theorem destuffFrom_stuffFrom_append (bits : List Bit) {n : Nat} (h : n ≤ 4) :
    ∃ m ≤ 4, ∀ more, destuffFrom n (stuffFrom n bits ++ more) = bits ++ destuffFrom m more := by
  induction bits generalizing n with
  | nil => exact ⟨n, h, fun _ => rfl⟩
  | cons t bits ih =>
    cases t with
    | false =>
      have noFive : n ≠ 5 := by omega
      obtain ⟨m, hm, rest⟩ := ih (Nat.zero_le 4)
      exact ⟨m, hm, fun more => by simp [stuffFrom, destuffFrom, noFive, rest]⟩
    | true =>
      by_cases fifth : n + 1 = 5
      · obtain ⟨m, hm, rest⟩ := ih (Nat.zero_le 4)
        exact ⟨m, hm, fun more => by simp [stuffFrom, destuffFrom, fifth, rest]⟩
      · obtain ⟨m, hm, rest⟩ := ih (n := n + 1) (by omega)
        exact ⟨m, hm, fun more => by simp [stuffFrom, destuffFrom, fifth, rest]⟩

theorem destuffFrom_length_le (n : Nat) (bits : List Bit) : (destuffFrom n bits).length ≤ bits.length := by
  induction bits generalizing n with
  | nil => exact le_rfl
  | cons t bits ih =>
    cases t with
    | true => exact Nat.succ_le_succ (ih (n + 1))
    | false =>
      rw [destuffFrom]
      split
      · exact (ih 0).trans (Nat.le_succ _)
      · exact Nat.succ_le_succ (ih 0)

/-! ## Runs of 1s (R112) -/

/-- No run of 1s in the stream is longer than five, where `n` 1s stand in front of it. -/
def RunsWithinFive : Nat → List Bit → Prop
  | _, [] => True
  | n, true :: bits => n + 1 ≤ 5 ∧ RunsWithinFive (n + 1) bits
  | _, false :: bits => RunsWithinFive 0 bits

/-- The stuffer breaks every run; whatever continues runs of at most four may follow. -/
theorem runsWithinFive_stuffFrom_append (bits : List Bit) {more : List Bit} (continues : ∀ m ≤ 4, RunsWithinFive m more)
    {n : Nat} (h : n ≤ 4) : RunsWithinFive n (stuffFrom n bits ++ more) := by
  induction bits generalizing n with
  | nil => exact continues n h
  | cons t bits ih =>
    cases t with
    | false => exact ih (Nat.zero_le 4)
    | true =>
      rw [stuffFrom]
      split
      · exact ⟨by omega, ih (Nat.zero_le 4)⟩
      · exact ⟨by omega, ih (by omega)⟩

theorem runsWithinFive_zeros (n k : Nat) : RunsWithinFive n (List.replicate k false) := by
  induction k generalizing n with
  | zero => trivial
  | succ k ih => exact ih 0

/-- `RunsWithinFive` says what it is called: no six consecutive 1s, those in front counted in. -/
theorem not_six_ones_of_runsWithinFive {bits : List Bit} {n : Nat} (h : RunsWithinFive n bits) (hn : n ≤ 5) (k : Nat) :
    ¬ ∀ j < 6, (List.replicate n true ++ bits)[k + j]? = some true := by
  intro ones
  induction bits generalizing n k with
  | nil =>
    have last := ones 5 (by decide)
    rw [List.append_nil, List.getElem?_replicate] at last
    split at last
    · omega
    · cases last
  | cons t bits ih =>
    cases t with
    | true =>
      obtain ⟨fits, rest⟩ := h
      have moved : List.replicate n true ++ true :: bits = List.replicate (n + 1) true ++ bits := by
        rw [List.replicate_succ', List.append_assoc, List.singleton_append]
      exact ih rest fits k (moved ▸ ones)
    | false =>
      by_cases crosses : k ≤ n
      · have atZero := ones (n - k) (by omega)
        rw [Nat.add_sub_cancel' crosses] at atZero
        simp at atZero
      · refine ih (n := 0) h (by decide) (k - n - 1) fun j hj => ?_
        have index : k + j = n + 1 + (k - n - 1 + j) := by omega
        have inside := ones j hj
        rw [index, List.getElem?_append_right (by simp; omega), List.length_replicate, Nat.add_assoc,
          Nat.add_sub_cancel_left, Nat.add_comm 1, List.getElem?_cons_succ] at inside
        exact inside

theorem not_infix_of_runsWithinFive {bits : List Bit} (h : RunsWithinFive 0 bits) :
    ¬ List.replicate 6 true <:+: bits := by
  rintro ⟨before, after, rfl⟩
  refine not_six_ones_of_runsWithinFive h (by decide) before.length fun j hj => ?_
  rw [List.replicate_zero, List.nil_append, List.append_assoc, List.getElem?_append_right (by omega),
    Nat.add_sub_cancel_left, List.getElem?_append_left (by simpa using hj), List.getElem?_replicate, if_pos hj]

theorem runsWithinFive_packed (xs : List Octet) :
    RunsWithinFive 0 (bitsOf (pack (stuff (bitsOf (wireBody xs))))) := by
  rw [bitsOf_pack]
  exact runsWithinFive_stuffFrom_append _ (fun m _ => runsWithinFive_zeros m _) (Nat.zero_le 4)

/-! ## The places of the flag pattern (R114) -/

theorem bitsOf_flag : bitsOf [0x7E] = flagBits := rfl

theorem bitsOf_delimited (packed : List Octet) :
    bitsOf ([0x7E] ++ packed ++ [0x7E]) = flagBits ++ bitsOf packed ++ flagBits := by
  rw [bitsOf_append, bitsOf_append, bitsOf_flag]

/-- Six 1s between two 0s: what the flag pattern at `k` says of the bits there. -/
theorem ones_of_flag_at {bits : List Bit} {k : Nat} (h : (bits.drop k).take 8 = flagBits) :
    (∀ j < 6, bits[k + 1 + j]? = some true) ∧ k + 8 ≤ bits.length := by
  have bit (j : Nat) (hj : j < 8) : bits[k + j]? = flagBits[j]? := by
    rw [← h, List.getElem?_take_of_lt hj, List.getElem?_drop]
  refine ⟨fun j hj => ?_, ?_⟩
  · rw [Nat.add_assoc, bit (1 + j) (by omega)]
    interval_cases j <;> rfl
  · have last : k + 7 < bits.length := (List.getElem?_eq_some_iff.mp (bit 7 (by decide))).choose
    exact last

/-- A 0 stands before six 1s or behind them. -/
theorem zero_outside_ones {bits : List Bit} {k z : Nat} (ones : ∀ j < 6, bits[k + j]? = some true)
    (zero : bits[z]? = some false) : z < k ∨ k + 6 ≤ z := by
  by_contra inside
  have one := ones (z - k) (by omega)
  rw [Nat.add_sub_cancel' (by omega), zero] at one
  cases one

/-- Six 1s do not stand within a part whose runs are shorter. -/
theorem ones_not_within {before inside after : List Bit} (h : RunsWithinFive 0 inside) {k : Nat}
    (ones : ∀ j < 6, (before ++ inside ++ after)[k + j]? = some true) :
    k < before.length ∨ before.length + inside.length < k + 6 := by
  by_contra within
  refine not_six_ones_of_runsWithinFive h (by decide) (k - before.length) fun j hj => ?_
  have one := ones j hj
  have index : k + j = before.length + (k - before.length + j) := by omega
  rw [index, List.append_assoc, List.getElem?_append_right (by omega), Nat.add_sub_cancel_left,
    List.getElem?_append_left (by omega)] at one
  exact one

/-- Between two flags with no six 1s inside, the 0s next to the inside part leave the pattern two places. -/
theorem flag_at_iff_of_runsWithinFive {inside : List Bit} (h : RunsWithinFive 0 inside) (k : Nat) :
    ((flagBits ++ inside ++ flagBits).drop k).take 8 = flagBits ↔
      (k = 0 ∨ k + 8 = (flagBits ++ inside ++ flagBits).length) := by
  have eight : flagBits.length = 8 := rfl
  have size : (flagBits ++ inside ++ flagBits).length = inside.length + 16 := by
    rw [List.length_append, List.length_append, eight]
    omega
  have closing : (flagBits ++ inside ++ flagBits).drop (8 + inside.length) = flagBits :=
    List.drop_left' List.length_append
  have closingZero : (flagBits ++ inside ++ flagBits)[8 + inside.length]? = some false := by
    rw [← List.head?_drop, closing]
    rfl
  have openingZero : (flagBits ++ inside ++ flagBits)[7]? = some false := rfl
  constructor
  · intro pattern
    obtain ⟨ones, fits⟩ := ones_of_flag_at pattern
    have besideOpening := zero_outside_ones ones openingZero
    have besideClosing := zero_outside_ones ones closingZero
    have notWithin := ones_not_within h ones
    omega
  · rintro (rfl | atEnd)
    · rfl
    · have index : k = 8 + inside.length := by omega
      rw [index, closing]
      rfl

/-- What `FRAME` leaves in `out`. -/
theorem frameRun_out (xs : List Octet) (s : State) : (frameRun xs s).out = wireOf xs := by
  rw [frameRun_eq_complete]
  rfl

theorem frameRun_results (xs : List Octet) (s : State) : (frameRun xs s).results = ⟨0x00, 0x0000, wireOf xs⟩ := by
  rw [frameRun_eq_complete]
  rfl

theorem wireOf_length (xs : List Octet) :
    (wireOf xs).length = 2 + (8 * (xs.length + 2) + runFifths 0 (bitsOf (wireBody xs)) + 7) / 8 := by
  simp only [wireOf, List.length_append, List.length_singleton, pack_length, stuff,
    stuffFrom_length _ (Nat.zero_le 4), bitsOf_length, wireBody_length]
  omega

/-- No octet is too many for any limit. -/
theorem admits_nil (s : State) : admits (.octets []) s = true := by
  unfold admits
  split
  · rfl
  · exact decide_eq_true (Nat.zero_le _)

end Sys2Proof.Machine

/-! ## The statements -/

open Sys2Proof Sys2Proof.Machine

/-- Settles O31. -/
theorem stuffingAddsOneBitPerFiveOnes : Obligations.StuffingAddsOneBitPerFiveOnes :=
  fun bits => stuffFrom_length bits (Nat.zero_le 4)

/-- Settles O32: the stuffer adds nothing at least, and a fifth of the body at most. -/
theorem wireLengthIsBounded : Obligations.WireLengthIsBounded := by
  intro src s admitted
  have stuffed := runFifths_le 0 (bitsOf (wireBody (operandValue src s)))
  rw [bitsOf_length, wireBody_length] at stuffed
  refine ⟨_, exec_frame_of_admits admitted, ?_⟩
  rw [frameRun_out, wireOf_length]
  omega

/-- Settles O33. -/
theorem noSixOnesBetweenTheFlags : Obligations.NoSixOnesBetweenTheFlags :=
  fun src s admitted => ⟨_, _, exec_frame_of_admits admitted, frameRun_out _ _,
    not_infix_of_runsWithinFive (runsWithinFive_packed (operandValue src s))⟩

/-- Settles O34. -/
theorem destuffingInvertsStuffing : Obligations.DestuffingInvertsStuffing := by
  intro bits
  obtain ⟨m, -, inverts⟩ := destuffFrom_stuffFrom_append bits (Nat.zero_le 4)
  have whole := inverts []
  rwa [List.append_nil, destuffFrom, List.append_nil] at whole

/-- Settles O35. -/
theorem flagPatternOnlyAtTheEnds : Obligations.FlagPatternOnlyAtTheEnds := by
  intro src s admitted
  refine ⟨_, exec_frame_of_admits admitted, fun k => ?_⟩
  rw [frameRun_out, wireOf, bitsOf_delimited]
  exact flag_at_iff_of_runsWithinFive (runsWithinFive_packed _) k

/-- Settles O26. -/
theorem bitOrdersAndReversal : Obligations.BitOrdersAndReversal :=
  ⟨fun _ eight => bitsMsb_octet_of_length eight,
    fun b => ⟨octet_bitsMsb b, bitrev8_bitrev8 b, bitsMsb_bitrev8 b⟩,
    fun b _ below => bitrev8_getLsbD b below, fun b _ below => bitsMsb_getElem? b below,
    wordOfOctets_toNat, wordOfOctets_hiOctet_loOctet⟩

/-- Settles O29: the wire frames of the two operands, computed. -/
theorem frameCornerCases : Obligations.FrameCornerCases := by
  have ofEmpty : wireOf [] = [0x7E, 0x00, 0x00, 0x7E] := by decide
  have ofOnes : wireOf [0xFF] = [0x7E, 0xFB, 0x80, 0x7D, 0xC0, 0x7E] := by decide
  exact ⟨fun s => ⟨_, exec_frame_of_admits (admits_nil s), ofEmpty ▸ frameRun_results [] s⟩,
    fun s admitted => ⟨_, exec_frame_of_admits admitted, ofOnes ▸ frameRun_results [0xFF] s⟩⟩
end

section
/-! PROOFS. The bit walk of the deframer (spec/42_deframer.md section 1): the SEARCHING step, what the shift
register holds of the bits read, the counter of 1s in a frame, and the runs of 1s that end it. The statements O36,
O37, O39 and O40. -/

namespace Sys2Proof.Machine

/-! ## The SEARCHING step (R133) -/

theorem rxStep_searching {s : State} (h : s.rxState = .searching) (t : Bit) :
    s.rxStep t = (s.rxShift t).rxSearchStep := by
  rw [State.rxStep, h]

theorem rxSearchStep_of_flag {s : State} (flag : s.rxSr = 0x7E) :
    s.rxSearchStep = { s with rxState := .inFrame, rxOnes := 0, rxDbits := [], rxHist := 0 } :=
  if_pos flag

theorem rxSearchStep_of_not_flag {s : State} (noFlag : s.rxSr ≠ 0x7E) : s.rxSearchStep = s :=
  if_neg noFlag

/-! ## Walks that have not ended -/

/-- The walk still reads bits (R140 says that in the other two states it does not). -/
abbrev State.Walking (s : State) : Prop :=
  s.rxState = .searching ∨ s.rxState = .inFrame

theorem ended_of_not_walking {s : State} (h : ¬ s.Walking) : s.rxState = .done ∨ s.rxState = .failed := by
  cases state : s.rxState with
  | searching => exact absurd (.inl state) h
  | inFrame => exact absurd (.inr state) h
  | done => exact .inl rfl
  | failed => exact .inr rfl

theorem rxStep_of_ended {s : State} (h : s.rxState = .done ∨ s.rxState = .failed) (t : Bit) : s.rxStep t = s :=
  rxStep_foldl_of_terminal h [t]

theorem walking_of_rxStep {s : State} {t : Bit} (h : (s.rxStep t).Walking) : s.Walking := by
  by_contra ended
  rw [rxStep_of_ended (ended_of_not_walking ended)] at h
  exact ended h

theorem rxWalk_concat (bits : List Bit) (t : Bit) (s : State) : s.rxWalk (bits ++ [t]) = (s.rxWalk bits).rxStep t :=
  rxWalk_append bits [t] s

/-! ## The shift register (R26, R132) -/

/-- The bits of the register move up by one and the bit read comes in below. -/
theorem bitsMsb_rxShift (s : State) (t : Bit) : bitsMsb (s.rxShift t).rxSr = (bitsMsb s.rxSr).tail ++ [t] := by
  cases t <;> simp [bitsMsb]

theorem eq_flag_iff (sr : Octet) : sr = 0x7E ↔ bitsMsb sr = flagBits := by
  refine ⟨fun h => h ▸ rfl, fun h => ?_⟩
  rw [← octet_bitsMsb sr, h]
  rfl

/-- R139 (b): a 1 in bit 0 is no flag. -/
theorem rxShift_true_ne_flag (s : State) : (s.rxShift true).rxSr ≠ 0x7E := by
  rw [ne_eq, eq_flag_iff, bitsMsb_rxShift]
  intro h
  exact absurd (congrArg List.getLast? h) (by simp [flagBits])

/-- Everything a bit step in a frame can write. -/
theorem rxStep_inFrame_cases {s : State} (h : s.rxState = .inFrame) (t : Bit) :
    s.rxStep t = { s.rxShift t with rxState := .done } ∨
      s.rxStep t = { s.rxShift t with rxOnes := s.rxOnes + 1, rxState := .failed } ∨
      ∃ ones dbits hist, s.rxStep t = { s.rxShift t with rxOnes := ones, rxDbits := dbits, rxHist := hist } := by
  rw [rxStep_inFrame h]
  by_cases flag : (s.rxShift t).rxSr = 0x7E
  · exact .inl (rxFrameStep_of_flag flag t)
  · cases t with
    | true =>
      rw [rxFrameStep_true_of_not_flag flag]
      by_cases exceeds : (s.rxShift true).rxOnes.toNat + 1 > 6
      · exact .inr (.inl (rxOneStep_of_exceeds exceeds))
      · exact .inr (.inr ⟨_, _, _, rxOneStep_of_le_six (Nat.le_of_not_lt exceeds)⟩)
    | false =>
      rw [rxFrameStep_false_of_not_flag flag]
      by_cases stuffed : (s.rxShift false).rxOnes.toNat = 5
      · exact .inr (.inr ⟨_, _, _, rxZeroStep_of_stuffed stuffed⟩)
      · exact .inr (.inr ⟨_, _, _, rxZeroStep_of_data stuffed⟩)

/-- Whatever else a bit step does, the register takes in the bit. -/
theorem rxStep_rxSr {s : State} (h : s.Walking) (t : Bit) : (s.rxStep t).rxSr = (s.rxShift t).rxSr := by
  rcases h with searching | inFrame
  · rw [rxStep_searching searching, State.rxSearchStep]
    split <;> rfl
  · obtain done | failed | ⟨ones, dbits, hist, goesOn⟩ := rxStep_inFrame_cases inFrame t
    · rw [done]
    · rw [failed]
    · rw [goesOn]

/-- The register holds the last eight bits read, the eight 1s of its start value standing in front of them. -/
theorem rxWalk_rxSr_suffix (bits : List Bit) {s : State} (h : (s.rxWalk bits).Walking) :
    bitsMsb (s.rxWalk bits).rxSr <:+ List.replicate 8 true ++ bits := by
  induction bits using List.reverseRecOn with
  | nil =>
    change bitsMsb Config.rxSrInit <:+ List.replicate 8 true
    decide
  | append_singleton bits t ih =>
    rw [rxWalk_concat] at h ⊢
    have before := walking_of_rxStep h
    rw [rxStep_rxSr before, bitsMsb_rxShift, ← List.append_assoc, List.suffix_append_self_iff]
    exact (List.tail_suffix _).trans (ih before)

/-- A suffix whose first element stands not in the front part lies in the rest. -/
theorem suffix_of_suffix_append {a : Bit} {front : List Bit} (absent : a ∉ front) {l rest : List Bit} :
    a :: l <:+ front ++ rest ↔ a :: l <:+ rest := by
  refine ⟨?_, fun h => h.trans (List.suffix_append ..)⟩
  rintro ⟨before, cut⟩
  obtain ⟨inFront, rfl, starts⟩ | ⟨inRest, -, rfl⟩ := List.append_eq_append_iff.mp cut
  · cases inFront with
    | nil => exact starts ▸ List.suffix_rfl
    | cons b inFront =>
      rw [List.cons_append] at starts
      exact absurd (List.mem_append_right before (List.head_eq_of_cons_eq starts ▸ List.mem_cons_self)) absent
  · exact List.suffix_append ..

theorem rxShift_eq_flag_iff {s : State} {bits : List Bit} (h : (s.rxWalk bits).Walking) (t : Bit) :
    ((s.rxWalk bits).rxShift t).rxSr = 0x7E ↔ flagBits <:+ bits ++ [t] := by
  have holds : (bitsMsb (s.rxWalk bits).rxSr).tail ++ [t] <:+ List.replicate 8 true ++ (bits ++ [t]) := by
    rw [← List.append_assoc, List.suffix_append_self_iff]
    exact (List.tail_suffix _).trans (rxWalk_rxSr_suffix bits h)
  have inRead : flagBits <:+ List.replicate 8 true ++ (bits ++ [t]) ↔ flagBits <:+ bits ++ [t] :=
    suffix_of_suffix_append (by decide)
  rw [eq_flag_iff, bitsMsb_rxShift, ← inRead]
  exact ⟨fun flag => flag ▸ holds,
    fun flag => (List.suffix_of_suffix_length_le holds flag (by simp [flagBits])).eq_of_length (by simp [flagBits])⟩

/-! ## The counter in a frame (R27, R139) -/

/-- In a frame with `n` 1s counted: they stand in the register's low bits with a 0 above them, and are at most six. -/
structure State.CountsRun (s : State) (n : Nat) : Prop where
  inFrame : s.rxState = .inFrame
  count : s.rxOnes.toNat = n
  le_six : n ≤ 6
  lowBits : false :: List.replicate n true <:+ bitsMsb s.rxSr

theorem State.CountsRun.not_done {s : State} {n : Nat} (h : s.CountsRun n) : s.rxState ≠ .done := by
  rw [h.inFrame]
  nofun

/-- The counted 1s are still there after the next shift. -/
theorem State.CountsRun.suffix_tail {s : State} {n : Nat} (h : s.CountsRun n) :
    false :: List.replicate n true <:+ (bitsMsb s.rxSr).tail :=
  List.suffix_of_suffix_length_le h.lowBits (List.tail_suffix _) (by simpa using Nat.lt_succ_of_le h.le_six)

/-- R139 (c): a 0 completes a flag exactly after six counted 1s. -/
theorem State.CountsRun.flag_iff {s : State} {n : Nat} (h : s.CountsRun n) :
    (s.rxShift false).rxSr = 0x7E ↔ n = 6 := by
  have six : flagBits = (false :: List.replicate 6 true) ++ [false] := rfl
  rw [eq_flag_iff, bitsMsb_rxShift, six, List.append_left_inj]
  have counted := h.suffix_tail
  constructor
  · intro flag
    rw [flag, List.suffix_cons_iff] at counted
    obtain same | inOnes := counted
    · simpa using congrArg List.length same
    · exact absurd (inOnes.mem List.mem_cons_self) (by decide)
  · rintro rfl
    exact (counted.eq_of_length rfl).symm

theorem countsRun_zero {s : State} (inFrame : s.rxState = .inFrame) (count : s.rxOnes = 0)
    (lowBit : [false] <:+ bitsMsb s.rxSr) : s.CountsRun 0 :=
  ⟨inFrame, by rw [count]; rfl, Nat.zero_le 6, lowBit⟩

/-- Entering a frame starts the count: the flag ends in a 0. -/
theorem rxStep_enters {s : State} {t : Bit} (searching : s.rxState = .searching) (flag : (s.rxShift t).rxSr = 0x7E) :
    (s.rxStep t).CountsRun 0 := by
  rw [rxStep_searching searching, rxSearchStep_of_flag flag]
  refine countsRun_zero rfl rfl ?_
  change [false] <:+ bitsMsb (s.rxShift t).rxSr
  rw [flag]
  decide

/-- A 1 that does not exceed six, whole. -/
theorem rxStep_one {s : State} (inFrame : s.rxState = .inFrame) (within : s.rxOnes.toNat ≤ 5) :
    s.rxStep true =
      { s.rxShift true with
        rxOnes := s.rxOnes + 1, rxDbits := s.rxDbits ++ [true], rxHist := (s.rxHist <<< 1) ||| 1 } := by
  rw [rxStep_inFrame inFrame, rxFrameStep_true_of_not_flag (rxShift_true_ne_flag s)]
  exact rxOneStep_of_le_six (s := s.rxShift true) (Nat.succ_le_succ within)

theorem State.CountsRun.step_one {s : State} {n : Nat} (h : s.CountsRun n) (within : n ≤ 5) :
    (s.rxStep true).CountsRun (n + 1) ∧ (s.rxStep true).rxDbits = s.rxDbits ++ [true] ∧
      (s.rxStep true).rxHist = (s.rxHist <<< 1) ||| 1 := by
  have count : s.rxOnes.toNat ≤ 5 := h.count.trans_le within
  rw [rxStep_one h.inFrame count]
  refine ⟨⟨h.inFrame, ?_, Nat.succ_le_succ within, ?_⟩, rfl, rfl⟩
  · have noWrap : (s.rxOnes + 1).toNat = s.rxOnes.toNat + 1 := by bv_omega
    exact noWrap.trans (congrArg (· + 1) h.count)
  · change _ <:+ bitsMsb (s.rxShift true).rxSr
    rw [bitsMsb_rxShift, List.replicate_succ', ← List.cons_append, List.suffix_append_self_iff]
    exact h.suffix_tail

/-- The seventh 1 in a row fails the frame (R135). -/
theorem State.CountsRun.step_seventh {s : State} (h : s.CountsRun 6) : (s.rxStep true).rxState = .failed := by
  have exceeds : (s.rxShift true).rxOnes.toNat + 1 > 6 := Nat.lt_succ_of_le h.count.ge
  rw [rxStep_inFrame h.inFrame, rxFrameStep_true_of_not_flag (rxShift_true_ne_flag s), rxOneStep_of_exceeds exceeds]

/-- A 0 after six 1s is the end of the closing flag; nothing is appended or recorded (R134). -/
theorem State.CountsRun.step_flag {s : State} (h : s.CountsRun 6) :
    s.rxStep false = { s.rxShift false with rxState := .done } := by
  rw [rxStep_inFrame h.inFrame, rxFrameStep_of_flag (h.flag_iff.mpr rfl)]

/-- Any other 0 starts the count anew; it is dropped after five 1s and appended after fewer (R136, R137). -/
theorem State.CountsRun.step_zero {s : State} {n : Nat} (h : s.CountsRun n) (within : n ≤ 5) :
    (s.rxStep false).CountsRun 0 ∧
      (s.rxStep false).rxDbits = s.rxDbits ++ (if n = 5 then [] else [false]) ∧
      (s.rxStep false).rxHist = (s.rxHist <<< 1) ||| (BitVec.ofBool (n != 5)).setWidth 7 := by
  have noFlag : (s.rxShift false).rxSr ≠ 0x7E := fun flag => absurd (h.flag_iff.mp flag) (by omega)
  have lowBit : [false] <:+ bitsMsb (s.rxShift false).rxSr := bitsMsb_rxShift s false ▸ List.suffix_append ..
  rw [rxStep_inFrame h.inFrame, rxFrameStep_false_of_not_flag noFlag]
  by_cases five : n = 5
  · rw [rxZeroStep_of_stuffed (s := s.rxShift false) (h.count.trans five)]
    exact ⟨countsRun_zero h.inFrame rfl lowBit, by simp [five], by simp [five]⟩
  · rw [rxZeroStep_of_data (s := s.rxShift false) (fun count => five (h.count.symm.trans count))]
    refine ⟨countsRun_zero h.inFrame rfl lowBit, by simp [five], ?_⟩
    have recorded : (n != 5) = true := bne_iff_ne.mpr five
    rw [recorded]
    rfl

/-- Everything a bit can do in a frame. -/
theorem State.CountsRun.step_cases {s : State} {n : Nat} (h : s.CountsRun n) (t : Bit) :
    (n ≤ 5 ∧ (s.rxStep t).CountsRun (n + 1)) ∨ (s.rxStep t).CountsRun 0 ∨
      (n = 6 ∧ (s.rxStep t).rxState = .done) ∨ (s.rxStep t).rxState = .failed := by
  by_cases six : n = 6
  · subst six
    cases t with
    | true => exact .inr (.inr (.inr h.step_seventh))
    | false => exact .inr (.inr (.inl ⟨rfl, by rw [h.step_flag]⟩))
  · have within : n ≤ 5 := by have := h.le_six; omega
    cases t with
    | true => exact .inl ⟨within, (h.step_one within).left⟩
    | false => exact .inr (.inl (h.step_zero within).left)

/-- In a frame the counter is right and the opening flag and the counted 1s have been read; so at `DONE` the closing
0 comes on top of fourteen bits. -/
theorem rxWalk_progress (bits : List Bit) (s : State) :
    ((s.rxWalk bits).rxState = .inFrame → ∃ n, (s.rxWalk bits).CountsRun n ∧ 8 + n ≤ bits.length) ∧
      ((s.rxWalk bits).rxState = .done → 15 ≤ bits.length) := by
  induction bits using List.reverseRecOn with
  | nil => exact ⟨nofun, nofun⟩
  | append_singleton bits t ih =>
    obtain ⟨ofInFrame, ofDone⟩ := ih
    rw [rxWalk_concat, List.length_append, List.length_singleton]
    cases state : (s.rxWalk bits).rxState with
    | searching =>
      by_cases flag : ((s.rxWalk bits).rxShift t).rxSr = 0x7E
      · have enters := rxStep_enters state flag
        have read : 8 ≤ (bits ++ [t]).length := ((rxShift_eq_flag_iff (.inl state) t).mp flag).length_le
        rw [List.length_append, List.length_singleton] at read
        exact ⟨fun _ => ⟨0, enters, read⟩, fun done => absurd done enters.not_done⟩
      · have stays : ((s.rxWalk bits).rxStep t).rxState = .searching := by
          rw [rxStep_searching state, rxSearchStep_of_not_flag flag, State.rxShift_rxState, state]
        rw [stays]
        exact ⟨nofun, nofun⟩
    | inFrame =>
      obtain ⟨n, counts, read⟩ := ofInFrame state
      obtain ⟨-, next⟩ | next | ⟨rfl, done⟩ | failed := counts.step_cases t
      · exact ⟨fun _ => ⟨n + 1, next, by omega⟩, fun done => absurd done next.not_done⟩
      · exact ⟨fun _ => ⟨0, next, by omega⟩, fun done => absurd done next.not_done⟩
      · rw [done]
        exact ⟨nofun, fun _ => by omega⟩
      · rw [failed]
        exact ⟨nofun, nofun⟩
    | done =>
      have read := ofDone state
      rw [rxStep_done state, state]
      exact ⟨nofun, fun _ => by omega⟩
    | failed =>
      rw [rxStep_failed state, state]
      exact ⟨nofun, nofun⟩

theorem countsRun_of_inFrame {s : State} {bits : List Bit} (h : (s.rxWalk bits).rxState = .inFrame) :
    ∃ n, (s.rxWalk bits).CountsRun n := by
  obtain ⟨n, counts, -⟩ := (rxWalk_progress bits s).left h
  exact ⟨n, counts⟩

/-! ## Runs of 1s and the closing flag -/

/-- Six 1s at most are appended one by one. -/
theorem State.CountsRun.ones {s : State} {n k : Nat} (h : s.CountsRun n) (within : n + k ≤ 6) :
    ((List.replicate k true).foldl State.rxStep s).CountsRun (n + k) ∧
      ((List.replicate k true).foldl State.rxStep s).rxDbits = s.rxDbits ++ List.replicate k true ∧
      ((List.replicate k true).foldl State.rxStep s).rxHist = (fun r : BitVec 7 => (r <<< 1) ||| 1)^[k] s.rxHist := by
  induction k generalizing s n with
  | zero => exact ⟨h, (List.append_nil _).symm, rfl⟩
  | succ k ih =>
    obtain ⟨first, dbits, hist⟩ := h.step_one (by omega)
    obtain ⟨counts, dbits', hist'⟩ := ih first (by omega)
    rw [List.replicate_succ, List.foldl_cons, Function.iterate_succ_apply]
    refine ⟨Nat.succ_add_eq_add_succ n k ▸ counts, ?_, hist' ▸ hist ▸ rfl⟩
    rw [dbits', dbits, List.append_assoc, List.singleton_append]

/-- More than six 1s in a row fail the frame, however many were counted before. -/
theorem State.CountsRun.ones_fail {s : State} {n k : Nat} (h : s.CountsRun n) (exceeds : 7 ≤ n + k) :
    ((List.replicate k true).foldl State.rxStep s).rxState = .failed := by
  induction k generalizing s n with
  | zero => have := h.le_six; omega
  | succ k ih =>
    rw [List.replicate_succ, List.foldl_cons]
    by_cases six : n = 6
    · subst six
      have failed := h.step_seventh
      rw [rxStep_foldl_of_terminal (.inr failed), failed]
    · have := h.le_six
      exact ih (h.step_one (by omega)).left (by omega)

theorem foldl_flagBits (s : State) :
    flagBits.foldl State.rxStep s = ((List.replicate 6 true).foldl State.rxStep (s.rxStep false)).rxStep false := rfl

/-- A flag in a frame ends the walk, after six 1s already with its first 0. -/
theorem State.CountsRun.flag_done {s : State} {n : Nat} (h : s.CountsRun n) :
    (flagBits.foldl State.rxStep s).rxState = .done := by
  by_cases six : n = 6
  · subst six
    have done : (s.rxStep false).rxState = .done := by rw [h.step_flag]
    have absorbed : flagBits.foldl State.rxStep s = s.rxStep false := rxStep_foldl_of_terminal (.inl done) _
    rw [absorbed, done]
  · obtain ⟨anew, -, -⟩ := h.step_zero (by have := h.le_six; omega)
    obtain ⟨counts, -, -⟩ := anew.ones (k := 6) le_rfl
    rw [foldl_flagBits, counts.step_flag]

end Sys2Proof.Machine

/-! ## The statements -/

open Sys2Proof Sys2Proof.Machine

/-- Settles O39. -/
theorem flagIsSeenAtItsEighthBit : Obligations.FlagIsSeenAtItsEighthBit :=
  fun _ _ t walking => rxShift_eq_flag_iff walking t

/-- Settles O40: `rxWalk_progress` gives the counter and the number of bits. -/
theorem bitStepFacts : Obligations.BitStepFacts := by
  refine ⟨rxShift_true_ne_flag, fun s bits inFrame => ?_, fun s bits => (rxWalk_progress bits s).right⟩
  obtain ⟨n, counts⟩ := countsRun_of_inFrame inFrame
  rw [counts.count]
  exact ⟨counts.le_six, counts.flag_iff.mpr⟩

/-- Settles O36. -/
theorem deframerStart : Obligations.DeframerStart :=
  fun _ => rfl

/-- Settles O37, branch by branch of the step on the shifted state. -/
theorem searchingStepFindsTheFlag : Obligations.SearchingStepFindsTheFlag := by
  intro s t searching
  rw [rxStep_searching searching]
  refine ⟨fun flag => ?_, fun noFlag => rxSearchStep_of_not_flag noFlag⟩
  rw [rxSearchStep_of_flag (s := s.rxShift t) flag, ← flag]
  rfl
end

section
/-! PROOFS. The results of `DEFRAME` (spec/10_state.md R39, spec/42_deframer.md section 2): they depend on the bits
of the capture alone, so fixed captures are computed from reset; and what captures with adjacent flags, two flags or
seven 1s end with. The statements O44, O45, O46, O13 and O43. -/

namespace Sys2Proof.Machine

/-! ## The walk and the results depend on the bits alone (R36, R39) -/

theorem rxSearchStep_withRxOf (u s : State) : (withRxOf u s).rxSearchStep = withRxOf u.rxSearchStep s := by
  rw [State.rxSearchStep, State.rxSearchStep, apply_ite (withRxOf · s)]
  rfl

theorem rxOneStep_withRxOf (u s : State) : (withRxOf u s).rxOneStep = withRxOf u.rxOneStep s := by
  rw [State.rxOneStep, State.rxOneStep, apply_ite (withRxOf · s)]
  rfl

theorem rxZeroStep_withRxOf (u s : State) : (withRxOf u s).rxZeroStep = withRxOf u.rxZeroStep s := by
  rw [State.rxZeroStep, State.rxZeroStep, apply_ite (withRxOf · s)]
  rfl

theorem rxFrameStep_withRxOf (u s : State) (t : Bit) : (withRxOf u s).rxFrameStep t = withRxOf (u.rxFrameStep t) s := by
  by_cases flag : u.rxSr = 0x7E
  · rw [rxFrameStep_of_flag (s := withRxOf u s) flag, rxFrameStep_of_flag flag]
    rfl
  · cases t with
    | true =>
      rw [rxFrameStep_true_of_not_flag (s := withRxOf u s) flag, rxFrameStep_true_of_not_flag flag, rxOneStep_withRxOf]
    | false =>
      rw [rxFrameStep_false_of_not_flag (s := withRxOf u s) flag, rxFrameStep_false_of_not_flag flag,
        rxZeroStep_withRxOf]

/-- A bit step reads the deframer's registers and the cursor alone. -/
theorem rxStep_withRxOf (u s : State) (t : Bit) : (withRxOf u s).rxStep t = withRxOf (u.rxStep t) s := by
  have shifts : (withRxOf u s).rxShift t = withRxOf (u.rxShift t) s := rfl
  cases state : u.rxState with
  | searching =>
    rw [rxStep_searching (s := withRxOf u s) state, rxStep_searching state, shifts, rxSearchStep_withRxOf]
  | inFrame => rw [rxStep_inFrame (s := withRxOf u s) state, rxStep_inFrame state, shifts, rxFrameStep_withRxOf]
  | done => rw [rxStep_done (s := withRxOf u s) state, rxStep_done state]
  | failed => rw [rxStep_failed (s := withRxOf u s) state, rxStep_failed state]

theorem foldl_rxStep_withRxOf (bits : List Bit) (u s : State) :
    bits.foldl State.rxStep (withRxOf u s) = withRxOf (bits.foldl State.rxStep u) s := by
  induction bits generalizing u with
  | nil => rfl
  | cons t bits ih => rw [List.foldl_cons, List.foldl_cons, rxStep_withRxOf, ih]

/-- A walk from any state is the walk from reset beside that state's other registers. -/
theorem rxWalk_eq_withRxOf_reset (bits : List Bit) (s : State) :
    s.rxWalk bits = withRxOf (State.reset.rxWalk bits) s :=
  foldl_rxStep_withRxOf bits State.reset.rxStart s

theorem rxCheck_results (octets : List Octet) (s : State) :
    (rxCheck octets s).results =
      if crc16 (receivedData octets) = receivedFcs octets then resultsOf .ok 0x0000 ((receivedData octets).map bitrev8)
      else errorResults .crcMismatch := by
  unfold rxCheck
  simp only [crcRun_crcFinal]
  split <;> rfl

theorem rxConclude_withRxOf_results (u s : State) : (rxConclude (withRxOf u s)).results = (rxConclude u).results := by
  have retracts : (withRxOf u s).rxRetract.rxDbits = u.rxRetract.rxDbits := rfl
  cases state : u.rxState with
  | searching => rw [rxConclude_of_searching (s := withRxOf u s) state, rxConclude_of_searching state]; rfl
  | inFrame => rw [rxConclude_of_inFrame (s := withRxOf u s) state, rxConclude_of_inFrame state]; rfl
  | failed => rw [rxConclude_of_failed (s := withRxOf u s) state, rxConclude_of_failed state]; rfl
  | done =>
    have done : (withRxOf u s).rxState = .done := state
    rw [rxConclude, rxConclude, done, state]
    simp only [rxFinish, retracts]
    split
    · rfl
    · rw [rxCheck_results, rxCheck_results]

theorem deframeRun_results_eq_reset (xs : List Octet) (s : State) :
    (deframeRun xs s).results = (deframeRun xs State.reset).results := by
  rw [deframeRun, rxWalk_eq_withRxOf_reset, rxConclude_withRxOf_results, deframeRun]

/-- The results of `DEFRAME` on a fixed capture are those computed from the reset state. -/
theorem exec_deframe_results {xs : List Octet} {r : Results} {s : State}
    (computed : (deframeRun xs State.reset).results = r) (admitted : admits (.octets xs) s = true) :
    ∃ t, exec (.deframe (.octets xs)) s = .next t ∧ t.results = r :=
  ⟨_, exec_deframe_of_admits admitted, (deframeRun_results_eq_reset xs s).trans computed⟩

/-- Once the walk of the first octets has ended, the computed results stand whatever follows. -/
theorem exec_deframe_append_results {xs : List Octet} {r : Results} {s : State}
    (ended : (State.reset.rxWalk (bitsOf xs)).rxState = .done ∨ (State.reset.rxWalk (bitsOf xs)).rxState = .failed)
    (computed : (deframeRun xs State.reset).results = r) (rest : List Octet)
    (admitted : admits (.octets (xs ++ rest)) s = true) :
    ∃ t, exec (.deframe (.octets (xs ++ rest))) s = .next t ∧ t.results = r :=
  exec_deframe_results (deframeRun_append_of_terminal ended rest ▸ computed) admitted

/-! ## Between two flags -/

theorem rxStep_ne_searching {s : State} (h : s.rxState ≠ .searching) (t : Bit) : (s.rxStep t).rxState ≠ .searching := by
  by_cases walks : s.Walking
  · obtain done | failed | ⟨ones, dbits, hist, goesOn⟩ := rxStep_inFrame_cases (walks.resolve_left h) t
    · rw [done]; nofun
    · rw [failed]; nofun
    · rw [goesOn]; exact h
  · rwa [rxStep_of_ended (ended_of_not_walking walks)]

theorem foldl_rxStep_ne_searching {s : State} (h : s.rxState ≠ .searching) (bits : List Bit) :
    (bits.foldl State.rxStep s).rxState ≠ .searching := by
  induction bits generalizing s with
  | nil => exact h
  | cons t bits ih => exact ih (rxStep_ne_searching h t)

theorem rxWalk_flag_inFrame (s : State) : (s.rxWalk flagBits).rxState = .inFrame := by
  rw [rxWalk_eq_withRxOf_reset]
  change (State.reset.rxWalk flagBits).rxState = .inFrame
  decide

/-- The second flag finds the walk in a frame and ends it, or finds it ended. -/
theorem rxWalk_between_flags_ended (bits : List Bit) (s : State) :
    (s.rxWalk (flagBits ++ bits ++ flagBits)).rxState = .done ∨
      (s.rxWalk (flagBits ++ bits ++ flagBits)).rxState = .failed := by
  have notSearching : (s.rxWalk (flagBits ++ bits)).rxState ≠ .searching := by
    rw [rxWalk_append]
    refine foldl_rxStep_ne_searching ?_ bits
    rw [rxWalk_flag_inFrame]
    decide
  rw [rxWalk_append]
  by_cases walks : (s.rxWalk (flagBits ++ bits)).Walking
  · obtain ⟨n, counts⟩ := countsRun_of_inFrame (walks.resolve_left notSearching)
    exact .inl counts.flag_done
  · have ended := ended_of_not_walking walks
    rwa [rxStep_foldl_of_terminal ended]

theorem rxConclude_status_of_ended {s : State} (h : s.rxState = .done ∨ s.rxState = .failed) :
    (rxConclude s).status ≠ 0x03 ∧ (rxConclude s).status ≠ 0x04 := by
  obtain ⟨searching, -⟩ | ⟨inFrame, -⟩ | ⟨-, ends⟩ | ⟨-, -, ends⟩ | ⟨-, -, ends⟩ := rxConclude_cases s
  · rw [searching] at h; cases h <;> contradiction
  · rw [inFrame] at h; cases h <;> contradiction
  · rw [ends, State.raise_status]; decide
  · rw [ends, State.raise_status]; decide
  · rw [ends]
    obtain agrees | differs := rxCheck_cases (group8 s.rxRetract.rxDbits) s.rxRetract
    · rw [agrees, State.complete_status]; decide
    · rw [differs, State.raise_status]; decide

end Sys2Proof.Machine

/-! ## The statements -/

open Sys2Proof Sys2Proof.Machine

/-- Settles O44: at most six 1s were counted, so the run of seven exceeds six before it ends. -/
theorem sevenOnesInAFrameFail : Obligations.SevenOnesInAFrameFail := by
  intro capture s before after admitted bits inFrame
  obtain ⟨n, counts⟩ := countsRun_of_inFrame inFrame
  have failed : (s.rxWalk (before ++ List.replicate 7 true)).rxState = .failed := by
    rw [rxWalk_append]
    exact counts.ones_fail (Nat.le_add_left 7 n)
  have walk : (s.rxWalk (bitsOf capture)).rxState = .failed := by
    rw [bits, rxWalk_append_of_terminal (.inr failed), failed]
  refine ⟨_, exec_deframe_of_admits admitted, ?_⟩
  rw [operandValue_octets, deframeRun, rxConclude_of_failed walk]
  rfl

/-- Settles O45: the first two octets end the walk with an empty frame. -/
theorem adjacentFlagsMakeAnEmptyFrame : Obligations.AdjacentFlagsMakeAnEmptyFrame :=
  ⟨fun rest _ => exec_deframe_append_results (xs := [0x7E, 0x7E]) (by decide) (by decide) rest,
    fun rest _ => exec_deframe_append_results (xs := [0x7E, 0xFC]) (by decide) (by decide) rest⟩

/-- Settles O46. -/
theorem twoFlagsDelimitAFrame : Obligations.TwoFlagsDelimitAFrame := by
  intro between s admitted
  refine ⟨_, exec_deframe_of_admits admitted, ?_⟩
  have bits : bitsOf (0x7E :: between ++ [0x7E]) = flagBits ++ bitsOf between ++ flagBits := bitsOf_delimited between
  rw [operandValue_octets, deframeRun, bits]
  exact rxConclude_status_of_ended (rxWalk_between_flags_ended _ s)

/-- Settles O13: `CRC_CALC` and `FRAME` write their results outright, and those of `DEFRAME` are the ones from the
reset state. -/
theorem resultsDependOnTheOperandAlone : Obligations.ResultsDependOnTheOperandAlone := by
  intro i s s' written fits fits'
  have admitted := (admitsInstr_resolved i s written).trans fits
  have admitted' := (admitsInstr_resolved i s' written).trans fits'
  cases i with
  | crcTableRead idx => exact ⟨_, _, rfl, rfl, rfl⟩
  | crcCalc src =>
    cases src with
    | out => cases written
    | octets xs =>
      refine ⟨_, _, exec_crcCalc_of_admits admitted, exec_crcCalc_of_admits admitted', ?_⟩
      rw [crcCalcRun_eq_complete, crcCalcRun_eq_complete]
      rfl
  | frame src =>
    cases src with
    | out => cases written
    | octets xs =>
      refine ⟨_, _, exec_frame_of_admits admitted, exec_frame_of_admits admitted', ?_⟩
      rw [frameRun_results, frameRun_results]
      rfl
  | deframe src =>
    cases src with
    | out => cases written
    | octets xs =>
      exact ⟨_, _, exec_deframe_of_admits admitted, exec_deframe_of_admits admitted',
        (deframeRun_results_eq_reset xs s).trans (deframeRun_results_eq_reset xs s').symm⟩

/-- Settles O43: the results of the three captures, computed. -/
theorem deframeCornerCases : Obligations.DeframeCornerCases :=
  ⟨fun s => exec_deframe_results (by decide) (admits_nil s), fun _ => exec_deframe_results (by decide),
    fun _ => exec_deframe_results (by decide)⟩
end

section
/-! PROOFS. Framer and deframer together (spec/42_deframer.md section 5): the bit walk over a stuffed body destuffs
it, the closing flag's bits are taken back whole, and what stands between body and flag is too short for an octet.
The statements O47, O48 and O49. -/

namespace Sys2Proof.Machine

/-! ## The walk over a stuffed body -/

/-- Where no run exceeds five, the walk stays in the frame and keeps the destuffed bits (R113). -/
theorem State.CountsRun.destuffs {s : State} {n : Nat} (h : s.CountsRun n) (within : n ≤ 5) {bits : List Bit}
    (runs : RunsWithinFive n bits) :
    ∃ m ≤ 5, (bits.foldl State.rxStep s).CountsRun m ∧
      (bits.foldl State.rxStep s).rxDbits = s.rxDbits ++ destuffFrom n bits := by
  induction bits generalizing s n with
  | nil => exact ⟨n, within, h, (List.append_nil _).symm⟩
  | cons t bits ih =>
    cases t with
    | true =>
      obtain ⟨fits, rest⟩ := runs
      obtain ⟨next, dbits, -⟩ := h.step_one within
      obtain ⟨m, hm, counts, dbits'⟩ := ih next fits rest
      refine ⟨m, hm, counts, ?_⟩
      rw [List.foldl_cons, dbits', dbits, destuffFrom, List.append_assoc, List.singleton_append]
    | false =>
      obtain ⟨next, dbits, -⟩ := h.step_zero within
      obtain ⟨m, hm, counts, dbits'⟩ := ih next (Nat.zero_le 5) runs
      refine ⟨m, hm, counts, ?_⟩
      rw [List.foldl_cons, dbits', dbits, destuffFrom, List.append_assoc]
      split <;> rfl

/-! ## The closing flag taken back (R142) -/

/-- The history of the flag's first seven bits: its 0 appended or not, and six 1s. -/
theorem popcount7_of_flag_history (r : BitVec 7) (a : Bit) :
    popcount7 ((fun r : BitVec 7 => (r <<< 1) ||| 1)^[6] ((r <<< 1) ||| (BitVec.ofBool a).setWidth 7)) =
      a.toNat + 6 := by
  revert r a
  decide +kernel

/-- What a closing flag appended, the retraction takes back. -/
theorem State.CountsRun.flag_retracted {s : State} {n : Nat} (h : s.CountsRun n) (within : n ≤ 5) :
    (flagBits.foldl State.rxStep s).rxRetract.rxDbits = s.rxDbits := by
  obtain ⟨anew, zeroDbits, zeroHist⟩ := h.step_zero within
  obtain ⟨counts, dbits, hist⟩ := anew.ones (k := 6) le_rfl
  rw [foldl_flagBits, counts.step_flag]
  change dropLastN (popcount7 ((List.replicate 6 true).foldl State.rxStep (s.rxStep false)).rxHist)
    ((List.replicate 6 true).foldl State.rxStep (s.rxStep false)).rxDbits = s.rxDbits
  have appended : (n != 5).toNat + 6 = ((if n = 5 then [] else [false]) ++ List.replicate 6 true).length := by
    by_cases five : n = 5
    · subst five; rfl
    · rw [if_neg five, bne_iff_ne.mpr five]; rfl
  rw [hist, zeroHist, popcount7_of_flag_history, dbits, zeroDbits, List.append_assoc, appended, dropLastN_append]

/-! ## A frame in a capture -/

/-- R145 to R147 on the octets of a wire body. -/
theorem rxConclude_results_of_wireBody {s : State} {xs : List Octet} (done : s.rxState = .done)
    (octets : group8 s.rxRetract.rxDbits = wireBody xs) : (rxConclude s).results = ⟨0x00, 0x0000, xs⟩ := by
  have checks := (eq_wordOfOctets_iff _ _ _).mp (wordOfOctets_hiOctet_loOctet (crc16 (xs.map bitrev8))).symm
  have reversedTwice : (xs.map bitrev8).map bitrev8 = xs := by
    rw [List.map_map]
    exact (List.map_congr_left fun b _ => bitrev8_bitrev8 b).trans (List.map_id xs)
  rw [rxConclude_of_done_pair done octets, rxCheck_of_match _ checks, reversedTwice]
  rfl

/-- A walk that stands at the start of a frame (R133). -/
def AtFrameStart (s : State) : Prop :=
  s.CountsRun 0 ∧ s.rxDbits = []

/-- The walk from a frame's start over the stuffed body, a filling of less than an octet, the closing flag, and anything
behind it. -/
theorem rxConclude_results_of_frame {s : State} (start : AtFrameStart s) (xs : List Octet) {filling : List Bit}
    (short : filling.length < 8) (continues : ∀ m ≤ 4, RunsWithinFive m filling) (more : List Bit) :
    (rxConclude ((stuff (bitsOf (wireBody xs)) ++ filling ++ flagBits ++ more).foldl State.rxStep s)).results =
      ⟨0x00, 0x0000, xs⟩ := by
  obtain ⟨counts, empty⟩ := start
  have runs : RunsWithinFive 0 (stuff (bitsOf (wireBody xs)) ++ filling) :=
    runsWithinFive_stuffFrom_append _ continues (Nat.zero_le 4)
  obtain ⟨m, hm, counted, dbits⟩ := counts.destuffs (Nat.zero_le 5) runs
  obtain ⟨k, -, destuffs⟩ := destuffFrom_stuffFrom_append (bitsOf (wireBody xs)) (Nat.zero_le 4)
  have noOctet : group8 (destuffFrom k filling) = [] :=
    group8_of_short _ ((destuffFrom_length_le k filling).trans_lt short)
  rw [List.foldl_append, List.foldl_append, rxStep_foldl_of_terminal (.inl counted.flag_done)]
  refine rxConclude_results_of_wireBody counted.flag_done ?_
  rw [counted.flag_retracted hm, dbits, empty, stuff, destuffs, List.nil_append, group8_bitsOf_append, noOctet,
    List.append_nil]

/-- `DEFRAME` of a capture in which a frame's opening flag is found and its body and closing flag follow. -/
theorem deframeRun_results_of_frame {capture xs : List Octet} {opening filling more : List Bit}
    (bits : bitsOf capture = opening ++ (stuff (bitsOf (wireBody xs)) ++ filling ++ flagBits ++ more))
    (start : AtFrameStart (State.reset.rxWalk opening)) (short : filling.length < 8)
    (continues : ∀ m ≤ 4, RunsWithinFive m filling) :
    (deframeRun capture State.reset).results = ⟨0x00, 0x0000, xs⟩ := by
  rw [deframeRun, bits, rxWalk_append]
  exact rxConclude_results_of_frame start xs short continues more

/-! ## The three captures of section 5 -/

/-- The opening flag is found behind up to seven bits of one value. -/
theorem atFrameStart_of_lead {j : Nat} (h : j < 8) (lead : Bit) :
    AtFrameStart (State.reset.rxWalk (List.replicate j lead ++ flagBits)) := by
  have registers : ∀ j < 8, ∀ lead : Bit,
      (State.reset.rxWalk (List.replicate j lead ++ flagBits)).rxState = .inFrame ∧
        (State.reset.rxWalk (List.replicate j lead ++ flagBits)).rxOnes = 0 ∧
        [false] <:+ bitsMsb (State.reset.rxWalk (List.replicate j lead ++ flagBits)).rxSr ∧
        (State.reset.rxWalk (List.replicate j lead ++ flagBits)).rxDbits = [] := by decide
  obtain ⟨inFrame, count, lowBit, empty⟩ := registers j h lead
  exact ⟨countsRun_zero inFrame count lowBit, empty⟩

/-- The bits of a wire frame, the pad in front of the closing flag. -/
theorem bitsOf_wireOf (xs : List Octet) :
    bitsOf (wireOf xs) =
      flagBits ++ (stuff (bitsOf (wireBody xs)) ++
        List.replicate (padCount (stuff (bitsOf (wireBody xs))).length) false) ++ flagBits := by
  rw [wireOf, bitsOf_delimited, bitsOf_pack]

theorem padCount_lt_eight (n : Nat) : padCount n < 8 :=
  Nat.mod_lt _ (by decide)

theorem deframeRun_results_of_offset {xs capture : List Octet} {j : Nat} (h : j < 8) {lead : Bit} {more : List Bit}
    (bits : bitsOf capture = List.replicate j lead ++ bitsOf (wireOf xs) ++ more) :
    (deframeRun capture State.reset).results = ⟨0x00, 0x0000, xs⟩ := by
  have parts : bitsOf capture = (List.replicate j lead ++ flagBits) ++ (stuff (bitsOf (wireBody xs)) ++
      List.replicate (padCount (stuff (bitsOf (wireBody xs))).length) false ++ flagBits ++ more) := by
    rw [bits, bitsOf_wireOf]
    simp only [List.append_assoc]
  refine deframeRun_results_of_frame parts (atFrameStart_of_lead h lead) ?_ (fun m _ => runsWithinFive_zeros m _)
  rw [List.length_replicate]
  exact padCount_lt_eight _

theorem deframeRun_wireOf_results (xs : List Octet) :
    (deframeRun (wireOf xs) State.reset).results = ⟨0x00, 0x0000, xs⟩ :=
  deframeRun_results_of_offset (j := 0) (lead := false) (more := []) (by decide) (List.append_nil _).symm

/-- One 1 among zeros makes no long run with at most four 1s before it. -/
theorem runsWithinFive_set_zeros {m : Nat} (h : m ≤ 4) (i k : Nat) :
    RunsWithinFive m ((List.replicate k false).set i true) := by
  induction k generalizing i m with
  | zero => trivial
  | succ k ih =>
    cases i with
    | zero => exact ⟨Nat.succ_le_succ h, runsWithinFive_zeros (m + 1) k⟩
    | succ i => exact ih (m := 0) (Nat.zero_le 4) i

/-- Setting a bit between body and closing flag sets a bit of the pad. -/
theorem set_pad_bit {front body pad back : List Bit} {k : Nat} (low : front.length + body.length ≤ k)
    (high : k < front.length + body.length + pad.length) :
    (front ++ (body ++ pad) ++ back).set k true =
      front ++ (body ++ pad.set (k - front.length - body.length) true ++ back) := by
  rw [List.append_assoc, List.set_append_right _ _ (by omega), List.append_assoc,
    List.set_append_right _ _ (by omega), List.set_append_left _ _ (by omega), List.append_assoc]

theorem deframeRun_results_of_pad_bit {xs capture : List Octet} {k : Nat}
    (low : 8 + (stuff (bitsOf (wireBody xs))).length ≤ k) (high : k + 8 < (bitsOf (wireOf xs)).length)
    (bits : bitsOf capture = (bitsOf (wireOf xs)).set k true) :
    (deframeRun capture State.reset).results = ⟨0x00, 0x0000, xs⟩ := by
  have eight : flagBits.length = 8 := rfl
  rw [bitsOf_wireOf] at bits high
  simp only [List.length_append, eight] at high
  rw [set_pad_bit (by omega) (by omega), ← List.append_nil (_ ++ _ ++ flagBits)] at bits
  refine deframeRun_results_of_frame bits (atFrameStart_of_lead (j := 0) (by decide) false) ?_
    (fun m hm => runsWithinFive_set_zeros hm _ _)
  rw [List.length_set, List.length_replicate]
  exact padCount_lt_eight _

end Sys2Proof.Machine

/-! ## The statements -/

open Sys2Proof Sys2Proof.Machine

/-- Settles O47: `FRAME` leaves the wire frame in `out`, and its bits deframe to the operand in every state. -/
theorem deframeInvertsFrame : Obligations.DeframeInvertsFrame := by
  refine ⟨fun src s admitted => ⟨_, exec_frame_of_admits admitted, fun admittedOut => ?_⟩,
    fun xs s admitted => exec_deframe_results (deframeRun_wireOf_results xs) admitted⟩
  refine ⟨_, exec_deframe_of_admits admittedOut, ?_⟩
  rw [operandValue_out, frameRun_out, deframeRun_results_eq_reset, deframeRun_wireOf_results]

/-- Settles O48. -/
theorem frameIsFoundAtAnyBitOffset : Obligations.FrameIsFoundAtAnyBitOffset :=
  fun _ _ _ _ _ _ _ fewBefore _ bits admitted =>
    exec_deframe_results (deframeRun_results_of_offset fewBefore bits) admitted

/-- Settles O49. -/
theorem invertedPadBitIsIgnored : Obligations.InvertedPadBitIsIgnored :=
  fun _ _ _ _ low high bits admitted => exec_deframe_results (deframeRun_results_of_pad_bit low high bits) admitted
end
